-- ==== Sys2Proof/Word.lean ====
section
/-! DEFINITION. The words of WIZCORE: 8-bit channels and the 24-bit colour word (30_encoding.md R103). -/

namespace Sys2Proof

/-- One colour channel, `CH_W` = 8 bits (00_scope.md R9). -/
abbrev Byte := BitVec 8

/-- The RGB24 colour word `W` (30_encoding.md R103). -/
abbrev ColorWord := BitVec 24

end Sys2Proof
end

