-- ==== Sys2Proof/Syntax.lean ====
section
/-! DEFINITION. The names the spec gives: formats, operations, pins, stimulus lines (10_state.md, 30_encoding.md). -/

namespace Sys2Proof

/-- The nine formats of 30_encoding.md R100. -/
inductive Format where
  | hsv23 | rgb24 | sym | frame24 | ptxctl | pollctl | rstctl | cmd16 | err2
  deriving DecidableEq, Repr

/-- The formats a combinational unit takes its operand in (10_state.md R32): CVT, PACK, ENC and the pulse symbols. -/
inductive UnitFormat where
  | hsv23 | rgb24 | frame24 | sym
  deriving DecidableEq, Repr

/-- SYM, the pulse symbol: 1 = ONE, 0 = ZERO, and no third value (30_encoding.md R104). -/
inductive Sym where
  | zero | one
  deriving DecidableEq, Repr, Inhabited

/-- A pulse frame, slot 0 first (20_memory.md R70). Every frame the units make has 24 slots. -/
abbrev Frame := List Sym

/-- DebounceState: IDLE = 0, HANDLED = 1 (10_state.md R36). -/
inductive DState where
  | idle | handled
  deriving DecidableEq, Repr

/-- The outcome input `txr` of a poll-level step (43_input_fsm.md R276). -/
inductive TxResult where
  | ok | fault
  deriving DecidableEq, Repr

/-- The outcome input `cmdr` of a poll-level step (43_input_fsm.md R276). -/
inductive CmdResult where
  | ok | err
  deriving DecidableEq, Repr

/-- The input ports of 10_state.md R31, less the clock. `btn`: true = high = released. -/
structure Pins where
  rst     : Bool
  btn     : Bool
  txFault : Bool
  cmdAck  : Bool
  cmdErr  : Bool
  deriving DecidableEq, Repr, Inhabited

/-- The operations of 30_encoding.md R111, one constructor per row of the opcode table. A bit the row ignores is an
operand all the same, so that no bit of an encoding is dropped: `fault` and `start` of PTXCTL, `lvl` and `d` of POLLCTL. -/
inductive Instr where
  /-- CVT, HSV23 (R140) -/
  | cvt (h : BitVec 9) (sat : BitVec 7) (v : BitVec 7)
  /-- PACK, RGB24 (R190) -/
  | pack (r : Byte) (g : Byte) (b : Byte)
  /-- ENC, FRAME24 (R192) -/
  | enc (w : ColorWord)
  /-- SYM.1 (R194) -/
  | sym1
  /-- SYM.0 (R195) -/
  | sym0
  /-- TX.IDLE, PTXCTL 00x (R221) -/
  | txIdle (fault : Bool)
  /-- TX.START, PTXCTL 01x (R222) -/
  | txStart (fault : Bool)
  /-- TX.RUN, PTXCTL 1x0 (R224) -/
  | txRun (start : Bool)
  /-- TX.FAULT, PTXCTL 1x1 (R228) -/
  | txFault (start : Bool)
  /-- POLL.PRESS, POLLCTL 000 (R281) -/
  | pollPress
  /-- POLL.HOLD, POLLCTL 001 (R284) -/
  | pollHold
  /-- POLL.RELEASE, POLLCTL 01x (R285) -/
  | pollRelease (d : DState)
  /-- POLL.DEAD, POLLCTL 1xx (R287) -/
  | pollDead (lvl : Bool) (d : DState)
  /-- RST, RSTCTL 1 (R380) -/
  | rst
  deriving DecidableEq, Repr

/-- One line of stimulus: those of 30_encoding.md R115, the waveform edges of 95_test_vectors.md sections 2.5 and 3.4,
and `untilDone`, the rest of a `TX` line once its first edge has run. -/
inductive Line where
  /-- `RST` -/
  | rst
  /-- `POLL lvl [tx=..] [cmd=..]` -/
  | poll (lvl : Bool) (txr : TxResult) (cmdr : CmdResult)
  /-- `CVT`, `PACK`, `ENC`: an operand word on a combinational unit. A lone symbol, in the format SYM, is the model's own
  line: DESIGN CHOICE (notes/assumptions/35.md) -/
  | operand (f : UnitFormat) (word : Nat)
  /-- `TX w` -/
  | tx (w : ColorWord)
  /-- the rest of `TX w`: run PTX to `ptx_done` -/
  | untilDone
  /-- `WAIT n` -/
  | wait (n : Nat)
  /-- one edge of PTX alone, with a start request or none, and the level of `tx_fault_i` -/
  | ptxEdge (start : Option ColorWord) (fault : Bool)
  /-- one clock edge of the whole block with these pin levels -/
  | edge (p : Pins)
  deriving DecidableEq, Repr

/-- The pseudo-operations of 30_encoding.md R116. -/
inductive PseudoLine where
  | press (n : Nat)
  | release
  | click
  | showColor (h : BitVec 9) (sat : BitVec 7) (v : BitVec 7)
  deriving DecidableEq, Repr

end Sys2Proof
end

