-- ==== Sys2Proof/WellFormed.lean ====
section
/-! DEFINITION. Which operations and stimulus lines are well formed (30_encoding.md R112, R115, R116). -/

namespace Sys2Proof

/-- The width of an operand on a unit's inputs (30_encoding.md R101 to R105). -/
def UnitFormat.bits : UnitFormat → Nat
  | .hsv23 => 23
  | .rgb24 => 24
  | .frame24 => 24
  | .sym => 1

/-- Every operation is well formed: its operands have the widths of their format by type, and no operation encoding is
illegal (30_encoding.md R112). -/
def Instr.wf : Instr → Bool
  | .cvt _ _ _ | .pack _ _ _ | .enc _ | .sym1 | .sym0 => true
  | .txIdle _ | .txStart _ | .txRun _ | .txFault _ => true
  | .pollPress | .pollHold | .pollRelease _ | .pollDead _ _ => true
  | .rst => true

/-- A stimulus line is well formed when the inputs it drives can hold it (30_encoding.md R101 to R105). -/
def Line.wf : Line → Bool
  | .operand f w => decide (w < 2 ^ f.bits)
  | .rst | .poll _ _ _ | .tx _ | .untilDone | .wait _ | .ptxEdge _ _ | .edge _ => true

/-- `PRESS n` needs n ≥ 1, and `SHOW` is only valid when CVT reports `invalid` = 0, which is the domain of
40_color_convert.md R141 (30_encoding.md R116). -/
def PseudoLine.wf : PseudoLine → Bool
  | .press n => decide (1 ≤ n)
  | .release | .click => true
  | .showColor h sat v => decide (h.toNat ≤ 360 ∧ sat.toNat ≤ 100 ∧ v.toNat ≤ 100)

/-- A program, as lines of stimulus, is well formed when each line is. -/
def programWf (p : List Line) : Bool := p.all Line.wf

end Sys2Proof
end

