-- ==== Sys2Proof/Decode.lean ====
section
/-! DEFINITION. Decoding and encoding (30_encoding.md R100 to R112). The bits of a format are a natural number, bit 0
least significant. A word means an operation only together with its format (notes/assumptions/13.md). -/

namespace Sys2Proof

/-- The width of each format (30_encoding.md R101 to R110). -/
def formatWidth : Format → Nat
  | .hsv23 => 23
  | .rgb24 => 24
  | .sym => 1
  | .frame24 => 24
  | .ptxctl => 3
  | .pollctl => 3
  | .rstctl => 1
  | .cmd16 => 16
  | .err2 => 2

/-- Why a word of a format is no operation. -/
inductive Reject where
  /-- the word has more bits than the format -/
  | tooWide
  /-- the format selects no operation at all (CMD16 and ERR2, R109, R110) -/
  | dataOnly
  /-- RSTCTL 0: no reset (R108) -/
  | noReset
  deriving DecidableEq, Repr

/-- What a word of a format decodes to. -/
inductive Decoded where
  | op (i : Instr)
  | rejected (why : Reject)
  deriving DecidableEq, Repr

/-- The bit field `w[lo + n - 1 : lo]` (00_scope.md R14). -/
def bitField (w lo n : Nat) : BitVec n := BitVec.ofNat n (w >>> lo)

/-- IDLE = 0, HANDLED = 1 (10_state.md R36). -/
def dstateOfBit (b : Bool) : DState := if b then .handled else .idle

/-- IDLE = 0, HANDLED = 1 (10_state.md R36). -/
def dstateBit : DState → Bool
  | .idle => false
  | .handled => true

/-- The table of 30_encoding.md R106. -/
def ptxctlOp : (busy start fault : Bool) → Instr
  | false, false, f => .txIdle f
  | false, true, f => .txStart f
  | true, st, false => .txRun st
  | true, st, true => .txFault st

/-- The table of 30_encoding.md R107. -/
def pollctlOp : (fatal lvl : Bool) → DState → Instr
  | false, false, .idle => .pollPress
  | false, false, .handled => .pollHold
  | false, true, d => .pollRelease d
  | true, l, d => .pollDead l d

/-- The operation a word that fits its format selects (30_encoding.md R101 to R108). -/
def decodeFitting : Format → Nat → Decoded
  | .hsv23, w => .op (.cvt (bitField w 14 9) (bitField w 7 7) (bitField w 0 7))
  | .rgb24, w => .op (.pack (bitField w 16 8) (bitField w 8 8) (bitField w 0 8))
  | .frame24, w => .op (.enc (bitField w 0 24))
  | .sym, w => .op (if w.testBit 0 then .sym1 else .sym0)
  | .ptxctl, w => .op (ptxctlOp (w.testBit 2) (w.testBit 1) (w.testBit 0))
  | .pollctl, w => .op (pollctlOp (w.testBit 2) (w.testBit 1) (dstateOfBit (w.testBit 0)))
  | .rstctl, w => if w.testBit 0 then .op .rst else .rejected .noReset
  | .cmd16, _ => .rejected .dataOnly
  | .err2, _ => .rejected .dataOnly

/-- Decoding, total on every format and every number (30_encoding.md R112). -/
def decode (f : Format) (w : Nat) : Decoded :=
  if w < 2 ^ formatWidth f then decodeFitting f w else .rejected .tooWide

/-- The three bits of PTXCTL (30_encoding.md R106) and of POLLCTL (R107). -/
def threeBits (b2 b1 b0 : Bool) : Nat := b2.toNat * 4 + b1.toNat * 2 + b0.toNat

/-- The format and the word of an operation (30_encoding.md R101 to R108). -/
def encode : Instr → Format × Nat
  | .cvt h sat v => (.hsv23, h.toNat * 2 ^ 14 + sat.toNat * 2 ^ 7 + v.toNat)
  | .pack r g b => (.rgb24, r.toNat * 2 ^ 16 + g.toNat * 2 ^ 8 + b.toNat)
  | .enc w => (.frame24, w.toNat)
  | .sym1 => (.sym, 1)
  | .sym0 => (.sym, 0)
  | .txIdle f => (.ptxctl, threeBits false false f)
  | .txStart f => (.ptxctl, threeBits false true f)
  | .txRun st => (.ptxctl, threeBits true st false)
  | .txFault st => (.ptxctl, threeBits true st true)
  | .pollPress => (.pollctl, threeBits false false false)
  | .pollHold => (.pollctl, threeBits false false true)
  | .pollRelease d => (.pollctl, threeBits false true (dstateBit d))
  | .pollDead l d => (.pollctl, threeBits true l (dstateBit d))
  | .rst => (.rstctl, 1)

/-- The format whose words a unit's inputs carry (10_state.md R32). -/
def unitFormat : UnitFormat → Format
  | .hsv23 => .hsv23
  | .rgb24 => .rgb24
  | .frame24 => .frame24
  | .sym => .sym

/-- The formats tried for a bare word of the opcode table, by its number of bits. A bare word names no format: 24 bits
are RGB24 or FRAME24 (or HSV23 in whole bytes), 3 bits PTXCTL or POLLCTL. RSTCTL comes first, because RST overrides both
control vectors (R112). DESIGN CHOICE (notes/assumptions/13.md), safe: `step` never uses this order. -/
def tableFormats (nbits : Nat) : List Format :=
  if nbits = 23 then [.hsv23]
  else if nbits = 24 then [.rgb24]
  else if nbits = 1 then [.rstctl, .sym]
  else if nbits = 3 then [.ptxctl]
  else if nbits = 8 then [.rstctl, .ptxctl]
  else []

/-- The first format of the list in which the word is an operation. -/
def firstDecoded (w : Nat) : List Format → Option Instr
  | [] => none
  | f :: fs =>
    match decode f w with
    | .op i => some i
    | .rejected _ => firstDecoded w fs

/-- The operation read from a bare word of `nbits` bits (notes/assumptions/13.md). -/
def decodeTableWord (nbits w : Nat) : Option Instr := firstDecoded w (tableFormats nbits)

end Sys2Proof
end

