-- ==== Sys2Proof/Config.lean ====
section
/-! DEFINITION. The configuration `Cfg` (00_scope.md R9) and the free values, which have no body. -/

namespace Sys2Proof

/-- RELEASE_MODE (43_input_fsm.md R275). -/
inductive ReleaseMode where
  | level | edge
  deriving DecidableEq, Repr

/-- One entry of SCENE_TABLE (20_memory.md R73). Natural numbers, so that an illegal table can be written down and
refused (00_scope.md R10). -/
structure SceneEntry where
  h       : Nat
  s       : Nat
  v       : Nat
  sceneId : Nat
  dimming : Nat
  deriving DecidableEq, Repr

/-- The parameters of 00_scope.md R9 that are not fixed by the protocol (R11). -/
structure Cfg where
  clkHz        : Nat
  resetTicks   : Nat
  pollPeriodNs : Nat
  syncStages   : Nat
  releaseMode  : ReleaseMode
  scene0       : SceneEntry
  scene1       : SceneEntry
  deriving DecidableEq, Repr

/-- The default table and parameters of 00_scope.md R9. DESIGN CHOICE (notes/assumptions/2.md), unsafe: CLK_HZ and
RESET_TICKS are OPEN in the spec, and 20 MHz and 0 are the example values of 95_test_vectors.md, CFG-A. -/
def Config.default : Cfg where
  clkHz := 20000000
  resetTicks := 0
  pollPeriodNs := 100000000
  syncStages := 2
  releaseMode := .level
  scene0 := ⟨0, 100, 20, 12, 100⟩
  scene1 := ⟨100, 100, 20, 6, 10⟩

/-- Free value (notes/assumptions/4.md), safe: the levels the outside world drives before the next edge, when no line
of stimulus gives them (10_state.md R31). The argument is the counter `State.tick`. -/
opaque Config.freePins : Nat → Pins

/-- Free value (notes/assumptions/11.md), safe: what stage `k` of the synchronizer holds after a poll-level cycle
(10_state.md R40). First argument: the counter `State.tick`. -/
opaque Config.freeStage : Nat → Nat → Bool

/-- Free value (notes/assumptions/10.md), safe: the slot at which a faulted poll-level frame was cut (42 R228). -/
opaque Config.freeCutSlot : Nat → Fin 24

/-- Free value (notes/assumptions/10.md), safe: 0, 1 or 2 for the phase HI, LO or GAP in which it was cut. -/
opaque Config.freeCutPhase : Nat → Fin 3

/-- Free value (notes/assumptions/10.md), safe: how far into that phase it was cut. -/
opaque Config.freeCutCount : Nat → Nat

end Sys2Proof
end

