-- ==== Sys2Proof/Machine/FrameStore.lean ====
section
/-! DEFINITION. The frame store (20_memory.md R70) and ENC's loop over it (41_frame_encode.md R192). -/

namespace Sys2Proof.Machine

/-- The symbol of a bit: 1 = ONE, 0 = ZERO (30_encoding.md R104). -/
def symOfBit (b : Bool) : Sym := if b then .one else .zero

/-- 24 ZERO symbols: the frame of the word 0 (41_frame_encode.md R192). -/
def offFrame : Frame := List.replicate 24 .zero

/-- `Frame[i]` (20_memory.md R70). -/
def frameRead (f : Frame) (i : Fin 24) : Option Sym := f[i.val]?

/-- `FrameWrite(i, sym)` (20_memory.md R70). -/
def frameWrite (f : Frame) (i : Fin 24) (x : Sym) : Frame := f.set i.val x

/-- ENC's loop for the bit positions `p - 1` down to 0: bit `p` goes to slot `23 - p` (41_frame_encode.md R192). -/
def encLoop (w : ColorWord) : Nat → Frame → Frame
  | 0, f => f
  | p + 1, f => encLoop w p (frameWrite f ⟨23 - p, by omega⟩ (symOfBit (w.getLsbD p)))

/-- `ENC(W)`: for bit positions 23 down to 0, into a frame of 24 slots (41_frame_encode.md R192). -/
def encFrame (w : ColorWord) : Frame := encLoop w 24 offFrame

/-- Slot `i` of the word being sent: `Frame[i] = ptx_word[23 - i]` (20_memory.md R71). -/
def slotSym (w : ColorWord) (i : Fin 24) : Sym := symOfBit (w.getLsbD (23 - i.val))

end Sys2Proof.Machine
end

