-- ==== Sys2Proof/Machine/Timing.lean ====
section
/-! DEFINITION. What follows from a configuration: the tick counts, the counter widths, legality (00_scope.md R9 to R13). -/

namespace Sys2Proof.Machine

/-- `ticks(ns)`, rounded to nearest with ties upward (00_scope.md R12). The constant stands first in the sum, so that the
kernel never counts it down on an open `clkHz`. -/
def ticks (c : Cfg) (ns : Nat) : Nat := (500000000 + ns * c.clkHz) / 1000000000

/-- `T1H` (R12). -/
def t1h (c : Cfg) : Nat := ticks c 700
/-- `T1L` (R12). -/
def t1l (c : Cfg) : Nat := ticks c 600
/-- `T0H` (R12). -/
def t0h (c : Cfg) : Nat := ticks c 350
/-- `T0L` (R12). -/
def t0l (c : Cfg) : Nat := ticks c 800

/-- `POLL_TICKS` (00_scope.md R13). -/
def pollTicks (c : Cfg) : Nat := ticks c c.pollPeriodNs

/-- The high time of a symbol's pulse pair (41_frame_encode.md R194, R195). -/
def highTicks (c : Cfg) : Sym → Nat
  | .one => t1h c
  | .zero => t0h c

/-- The low time of a symbol's pulse pair (41_frame_encode.md R194, R195). -/
def lowTicks (c : Cfg) : Sym → Nat
  | .one => t1l c
  | .zero => t0l c

/-- The least `w` with `2^w > m`, the width rule of 00_scope.md R9. -/
def widthFor (m : Nat) : Nat := if m = 0 then 0 else Nat.log2 m + 1

/-- `max(T1H, T1L, T0H, T0L, RESET_TICKS)` (00_scope.md R9, 10_state.md R43). -/
def maxPhaseTicks (c : Cfg) : Nat :=
  max (t1h c) (max (t1l c) (max (t0h c) (max (t0l c) c.resetTicks)))

/-- `CNT_W` (00_scope.md R9). -/
def cntW (c : Cfg) : Nat := widthFor (maxPhaseTicks c)

/-- `POLL_CNT_W` (00_scope.md R9). -/
def pollCntW (c : Cfg) : Nat := widthFor (pollTicks c)

/-- A table entry in domain, with a dimming of at most 100 and an id of `SCENE_ID_W` = 8 bits (00_scope.md R10). -/
def entryLegal (e : SceneEntry) : Bool :=
  decide (e.h ≤ 360 ∧ e.s ≤ 100 ∧ e.v ≤ 100 ∧ e.dimming ≤ 100 ∧ e.sceneId < 2 ^ 8)

/-- A legal configuration (00_scope.md R10). -/
def cfgLegal (c : Cfg) : Bool :=
  entryLegal c.scene0 && entryLegal c.scene1 &&
    decide (1 ≤ t1h c ∧ 1 ≤ t1l c ∧ 1 ≤ t0h c ∧ 1 ≤ t0l c) &&
    decide (1 ≤ pollTicks c ∧ 1 ≤ c.syncStages)

/-- `SCENE_TABLE[n]`: the table is read at the index `scene` and at no other (20_memory.md R73). -/
def sceneEntry (c : Cfg) (n : BitVec 1) : SceneEntry := if n = 0#1 then c.scene0 else c.scene1

end Sys2Proof.Machine
end

