-- ==== Sys2Proof/Machine/State.lean ====
section
/-! DEFINITION. The state of WIZCORE (10_state.md), its reset value (R51), and the reasons a step can stop. -/

namespace Sys2Proof.Machine

/-- `fsm_phase`, a six-valued enumeration (10_state.md R35). -/
inductive Phase where
  | sample | showP | send | showR | sleep | fatal
  deriving DecidableEq, Repr

/-- `ptx_phase` (10_state.md R42). -/
inductive PtxPhase where
  | hi | lo | gap
  deriving DecidableEq, Repr

/-- ERR2, all four codes used (30_encoding.md R110, 60_exceptions.md R340). -/
inductive ErrCode where
  | none | invalidColorInput | peripheralError | transportError
  deriving DecidableEq, Repr

/-- The FSM registers (10_state.md R34 to R40). `sync` lists stage 0 first; true = high = released. -/
structure Fsm where
  scene    : BitVec 1
  phase    : Phase
  dstate   : DState
  sleepCnt : Nat
  errCode  : ErrCode
  startR   : Bool
  wordR    : ColorWord
  sync     : List Bool
  deriving DecidableEq, Repr

/-- The PTX registers (10_state.md R41 to R45). -/
structure Ptx where
  busy  : Bool
  phase : PtxPhase
  slot  : Fin 24
  cnt   : Nat
  word  : ColorWord
  dout  : Bool
  done  : Bool
  err   : Bool
  deriving DecidableEq, Repr

/-- CVT's outputs (10_state.md R32, 40_color_convert.md R140). -/
structure CvtOut where
  r       : Byte
  g       : Byte
  b       : Byte
  invalid : Bool
  deriving DecidableEq, Repr

/-- A pulse pair in clock periods, high part first (30_encoding.md R104). -/
structure Pulse where
  high : Nat
  low  : Nat
  deriving DecidableEq, Repr

/-- The output wires of the combinational units for the operand a line last applied (10_state.md R32;
notes/assumptions/8.md, 34.md, 35.md, 36.md).
They are no registers: nothing in the block reads them. -/
structure Units where
  cvt   : CvtOut
  word  : ColorWord
  frame : Frame
  pulse : Pulse
  deriving DecidableEq, Repr

/-- The two outcome inputs of a poll-level step (43_input_fsm.md R276). -/
structure Answers where
  txr  : TxResult
  cmdr : CmdResult
  deriving DecidableEq, Repr

/-- The observable events (43_input_fsm.md R296), with the port widths of 10_state.md R31. -/
inductive Event where
  | frame (w : ColorWord) (r : TxResult)
  | cmd (n : BitVec 1) (id : BitVec 8) (dim : BitVec 7) (r : CmdResult)
  | fatal (code : ErrCode)
  deriving DecidableEq, Repr

/-- The machine. `cfg` is no architectural state (10_state.md R30): it is the parameter every step takes, carried here
and changed by none (notes/assumptions/1.md). `stim`, `rstLow` and `tick` are the model's own (notes/assumptions/6.md,
33.md, 24.md); `rstLow` says that a line `RST` has brought `rst_i` back to 0 and that no line has driven it since
(30_encoding.md R115). -/
structure State where
  cfg   : Cfg
  fsm   : Fsm
  ptx   : Ptx
  pins  : Pins
  ans   : Answers
  units : Units
  trace : List Event
  cuts  : List ColorWord
  stim  : List Line
  rstLow : Bool
  tick  : Nat
  deriving DecidableEq, Repr

/-- The poll-level state (10_state.md R52). -/
structure PState where
  scene   : BitVec 1
  dstate  : DState
  fatal   : Bool
  errCode : ErrCode
  deriving DecidableEq, Repr

/-- Why a step stops with a fault. No operation of WIZCORE does: its errors are a phase, FATAL (60_exceptions.md R343). -/
inductive Fault where
  /-- Raised by a clock edge of the whole block when the state's synchronizer has no stage `SYNC_STAGES - 1` to read
  (10_state.md R40). Safe: no such state is a WIZCORE state, and no run from reset reaches one (notes/assumptions/19.md). -/
  | noSyncStage
  deriving DecidableEq, Repr

/-- Why a step refuses. -/
inductive Refusal where
  /-- Raised by an arm of `exec` whose operation has no meaning yet; no arm does. Safe. -/
  | notModelled (mnemonic : String)
  /-- Raised by `step` under an illegal configuration, as 00_scope.md R10 and 93_implementation_defined.md I7 ask. Safe. -/
  | illegalConfig
  /-- Raised by `step` for an operand word wider than its format, which no unit's inputs can hold (30_encoding.md R101 to
  R105; notes/assumptions/26.md). Safe. -/
  | operandTooWide
  deriving DecidableEq, Repr

/-- The FSM registers right after reset (10_state.md R51). -/
def fsmReset (c : Cfg) : Fsm where
  scene := 0#1
  phase := .sample
  dstate := .idle
  sleepCnt := 0
  errCode := .none
  startR := false
  wordR := 0#24
  sync := List.replicate c.syncStages true

/-- The PTX registers right after reset (10_state.md R51). -/
def ptxReset : Ptx where
  busy := false
  phase := .hi
  slot := 0
  cnt := 0
  word := 0#24
  dout := false
  done := false
  err := false

/-- The units' wires with the operand 0 applied to each. DESIGN CHOICE (notes/assumptions/8.md), unsafe. -/
def unitsReset (c : Cfg) : Units where
  cvt := ⟨0#8, 0#8, 0#8, false⟩
  word := 0#24
  frame := offFrame
  pulse := ⟨t0h c, t0l c⟩

/-- The levels the host holds after reset (70_reset_and_hazards.md R386, R391). DESIGN CHOICE (notes/assumptions/5.md),
unsafe: the spec gives duties, not reset values, for inputs. -/
def pinsReset : Pins where
  rst := false
  btn := true
  txFault := false
  cmdAck := false
  cmdErr := false

/-- The machine right after reset under the configuration `c` (10_state.md R51), with no stimulus loaded. -/
def State.resetWith (c : Cfg) : State where
  cfg := c
  fsm := fsmReset c
  ptx := ptxReset
  pins := pinsReset
  ans := ⟨.ok, .ok⟩
  units := unitsReset c
  trace := []
  cuts := []
  stim := []
  rstLow := false
  tick := 0

/-- The machine right after reset, under the default configuration (00_scope.md R9; notes/assumptions/2.md). -/
def State.reset : State := State.resetWith Config.default

end Sys2Proof.Machine
end

