-- ==== Sys2Proof/Machine/Convert.lean ====
section
/-! DEFINITION. CVT's arithmetic (40_color_convert.md) and the packing of the colour word (41_frame_encode.md R190). -/

namespace Sys2Proof.Machine

/-- The sector `k := min(h div 60, 5)` (40_color_convert.md R147). -/
def sector (h : Nat) : Nat := min (h / 60) 5

/-- `F`, 0 to 60: the rising side of an even sector, the falling side of an odd one (R140). -/
def fold (h : Nat) : Nat :=
  if sector h % 2 = 0 then h - 60 * sector h else 60 * (sector h + 1) - h

/-- `Q(f) := (17 * v * (s*f + 6000 - 60*s)) div 40000` (R140, R149). -/
def chanQ (s v f : Nat) : Nat := 17 * v * (s * f + 6000 - 60 * s) / 40000

/-- The order of (C, X, Z) in each sector (R140). Sector 5 is the last. -/
def arrange (k c x z : Nat) : Nat × Nat × Nat :=
  match k with
  | 0 => (c, x, z)
  | 1 => (x, c, z)
  | 2 => (z, c, x)
  | 3 => (z, x, c)
  | 4 => (x, z, c)
  | _ => (c, z, x)

/-- The channels of a legal triple as exact numbers (R140). -/
def channels (h s v : Nat) : Nat × Nat × Nat :=
  arrange (sector h) (chanQ s v 60) (chanQ s v (fold h)) (chanQ s v 0)

/-- The domain check of R141: one of h > 360, s > 100, v > 100. -/
def outOfDomain (h s v : Nat) : Bool := decide (360 < h ∨ 100 < s ∨ 100 < v)

/-- `CVT(h, s, v)` (40_color_convert.md R140). While `invalid` = 1 it drives zeros (R142). -/
def cvt (h s v : Nat) : CvtOut :=
  if outOfDomain h s v then ⟨0#8, 0#8, 0#8, true⟩
  else
    let q := channels h s v
    ⟨BitVec.ofNat 8 q.1, BitVec.ofNat 8 q.2.1, BitVec.ofNat 8 q.2.2, false⟩

/-- `PACK(r, g, b)`: `(zext_24(r) << 16) | (zext_24(g) << 8) | zext_24(b)` (41_frame_encode.md R190). -/
def packWord (r g b : Byte) : ColorWord :=
  (r.setWidth 24 <<< 16) ||| (g.setWidth 24 <<< 8) ||| b.setWidth 24

end Sys2Proof.Machine
end

