-- ==== Sys2Proof/Machine/Operands.lean ====
section
/-! DEFINITION. What the operations read from the state: the level, the table entry, the symbol in flight, the control
vectors, the command (10_state.md R40, R46, 30_encoding.md R106 to R110, 42_pulse_transmit.md R223). -/

namespace Sys2Proof.Machine

/-- `lvl := sync[SYNC_STAGES-1]`, if the state has that stage (10_state.md R40). -/
def lvl? (s : State) : Option Bool := s.fsm.sync[s.cfg.syncStages - 1]?

/-- `SCENE_TABLE[scene]`, the only entry that is read (20_memory.md R73). -/
def currentEntry (s : State) : SceneEntry := sceneEntry s.cfg s.fsm.scene

/-- CVT of the current entry's colour (43_input_fsm.md R281, R289). -/
def entryColor (s : State) : CvtOut :=
  cvt (currentEntry s).h (currentEntry s).s (currentEntry s).v

/-- `PACK` of that colour: the feedback word of a press (43_input_fsm.md R281). -/
def feedbackWord (s : State) : ColorWord :=
  packWord (entryColor s).r (entryColor s).g (entryColor s).b

/-- The word of the off colour HSV (0, 0, 0) (43_input_fsm.md R274). -/
def offWord : ColorWord := 0#24

/-- `sym := ptx_word[23 - ptx_slot]` (42_pulse_transmit.md R223). -/
def symInFlight (s : State) : Sym := slotSym s.ptx.word s.ptx.slot

/-- `TH` (42_pulse_transmit.md R223). -/
def thInFlight (s : State) : Nat := highTicks s.cfg (symInFlight s)

/-- `TL` (42_pulse_transmit.md R223). -/
def tlInFlight (s : State) : Nat := lowTicks s.cfg (symInFlight s)

/-- `cmd_scene_id_o`, 8 bits (10_state.md R46). -/
def sceneIdField (s : State) : BitVec 8 := BitVec.ofNat 8 (currentEntry s).sceneId

/-- `cmd_dimming_o`, 7 bits (10_state.md R46). -/
def dimmingField (s : State) : BitVec 7 := BitVec.ofNat 7 (currentEntry s).dimming

/-- CMD16: `[15]` scene, `[14:7]` scene_id, `[6:0]` dimming (30_encoding.md R109). -/
def cmd16 (s : State) : BitVec 16 := s.fsm.scene ++ sceneIdField s ++ dimmingField s

/-- The code of an error (30_encoding.md R110). -/
def errBits : ErrCode → BitVec 2
  | .none => 0#2
  | .invalidColorInput => 1#2
  | .peripheralError => 2#2
  | .transportError => 3#2

/-- The encoding of `fsm_phase` (10_state.md R35). -/
def phaseBits : Phase → BitVec 3
  | .sample => 0#3
  | .showP => 1#3
  | .send => 2#3
  | .showR => 3#3
  | .sleep => 4#3
  | .fatal => 5#3

/-- The encoding of `ptx_phase` (10_state.md R42). -/
def ptxPhaseBits : PtxPhase → BitVec 2
  | .hi => 0#2
  | .lo => 1#2
  | .gap => 2#2

/-- The PTX operation PTXCTL selects, given the level of `tx_fault_i` (30_encoding.md R106). -/
def ptxSelected (s : State) (fault : Bool) : Instr := ptxctlOp s.ptx.busy s.fsm.startR fault

end Sys2Proof.Machine
end

