-- ==== Sys2Proof/Machine/Flags.lean ====
section
/-! DEFINITION. The flags of 10_state.md R47 and the outputs of R46, all functions of the registers; the poll-level view
of the state (R52). -/

namespace Sys2Proof.Machine

/-- `fatal`: the FSM is in FATAL (10_state.md R46, R47). -/
def fatalFlag (s : State) : Bool := decide (s.fsm.phase = .fatal)

/-- The poll-level state of a clock-level state (10_state.md R52). -/
def pstate (s : State) : PState := ⟨s.fsm.scene, s.fsm.dstate, fatalFlag s, s.fsm.errCode⟩

/-- `fsm_phase` ∈ {SAMPLE, FATAL}: where POLLCTL is evaluated (30_encoding.md R107). -/
def atPollPoint (s : State) : Bool := decide (s.fsm.phase = .sample ∨ s.fsm.phase = .fatal)

/-- The poll operation POLLCTL selects for a sampled level (30_encoding.md R107). -/
def pollSelected (s : State) (lvl : Bool) : Instr := pollctlOp (fatalFlag s) lvl s.fsm.dstate

/-- The output ports (10_state.md R31). -/
structure Outputs where
  ledDout    : Bool
  txBusy     : Bool
  cmdValid   : Bool
  cmdScene   : BitVec 1
  cmdSceneId : BitVec 8
  cmdDimming : BitVec 7
  fatal      : Bool
  errCode    : BitVec 2
  scene      : BitVec 1
  dstate     : Bool
  deriving DecidableEq, Repr

/-- Each output as a function of the registers (10_state.md R46). -/
def outputs (s : State) : Outputs where
  ledDout := s.ptx.dout
  txBusy := s.ptx.busy
  cmdValid := decide (s.fsm.phase = .send)
  cmdScene := s.fsm.scene
  cmdSceneId := sceneIdField s
  cmdDimming := dimmingField s
  fatal := fatalFlag s
  errCode := errBits s.fsm.errCode
  scene := s.fsm.scene
  dstate := dstateBit s.fsm.dstate

end Sys2Proof.Machine
end

