-- ==== Sys2Proof/Machine/Ops.lean ====
section
/-! DEFINITION. The shared operations on the state: events, raising an error, PTX's ends of a frame, the edges a poll
cycle takes. -/

namespace Sys2Proof.Machine

/-- An outcome with its next state changed by `f`. -/
def mapNext (f : State → State) : Host.Outcome State Fault Refusal → Host.Outcome State Fault Refusal
  | .next s => .next (f s)
  | .fault r => .fault r
  | .refused r => .refused r

/-- `emit E` (00_scope.md R18, 43_input_fsm.md R296). -/
def emit (e : Event) (s : State) : State := { s with trace := s.trace ++ [e] }

/-- TAKING AN ERROR, `raise Err(code)` (60_exceptions.md R343): FATAL, the code, the event, and nothing else. There is no
saved state, no vector and no return; only RST leaves FATAL (R346). -/
def raiseErr (c : ErrCode) (s : State) : State :=
  emit (.fatal c) { s with fsm := { s.fsm with phase := .fatal, errCode := c } }

/-- The command event of the current scene (43_input_fsm.md R281, R296). -/
def emitCmd (r : CmdResult) (s : State) : State :=
  emit (.cmd s.fsm.scene (sceneIdField s) (dimmingField s) r) s

/-- The end of a press without an error: `scene <- scene xor 1`, `dstate <- HANDLED` (43_input_fsm.md R283). -/
def advanceScene (s : State) : State :=
  { s with fsm := { s.fsm with scene := s.fsm.scene ^^^ 1#1, dstate := .handled } }

/-- The end of a release without an error: `dstate <- IDLE` (43_input_fsm.md R286). -/
def rearm (s : State) : State := { s with fsm := { s.fsm with dstate := .idle } }

/-- The end of a frame: `ptx_busy <- 0; ptx_done <- 1; ptx_err <- 0; ptx_dout <- 0` (42_pulse_transmit.md R226, R227), and
the event of a completed frame (43_input_fsm.md R296). -/
def finishFrame (s : State) : State :=
  emit (.frame s.ptx.word .ok)
    { s with ptx := { s.ptx with busy := false, done := true, err := false, dout := false } }

/-- The abort of a frame (42_pulse_transmit.md R228) and its event (43_input_fsm.md R296). -/
def abortFrame (s : State) : State :=
  emit (.frame s.ptx.word .fault)
    { s with ptx := { s.ptx with busy := false, dout := false, done := true, err := true } }

/-- `ptx_cnt <- ptx_cnt + 1` with the line at `d` (42_pulse_transmit.md R225 to R227). -/
def countTick (d : Bool) (s : State) : State :=
  { s with ptx := { s.ptx with cnt := s.ptx.cnt + 1, dout := d } }

/-- Entry into a phase of a slot: `ptx_cnt <- 0` (42_pulse_transmit.md R225, R226). -/
def enterPhase (ph : PtxPhase) (slot : Fin 24) (d : Bool) (s : State) : State :=
  { s with ptx := { s.ptx with phase := ph, slot := slot, cnt := 0, dout := d } }

/-! ### A whole poll cycle at once

A poll-level operation is one complete poll cycle (30_encoding.md R115). Its rules name PState and the events. The other
registers take the values the clock-level rules leave in them at the end of such a cycle: DEDUCED
(notes/assumptions/9.md). -/

/-- PTX as TX.IDLE leaves it (42_pulse_transmit.md R221). -/
def ptxIdle (p : Ptx) : Ptx := { p with dout := false, done := false, err := false }

/-- PTX after the complete frame of `w` and the TX.IDLE edge behind it: the slot, phase and count of the frame's last
edge stay (42_pulse_transmit.md R226, R227; 95_test_vectors.md V2.63). -/
def ptxAfterFrame (c : Cfg) (w : ColorWord) : Ptx where
  busy := false
  phase := if 0 < c.resetTicks then .gap else .lo
  slot := 23
  cnt := if 0 < c.resetTicks then c.resetTicks - 1 else lowTicks c (slotSym w 23) - 1
  word := w
  dout := false
  done := false
  err := false

/-- How long a phase of a slot lasts (42_pulse_transmit.md R225 to R227). -/
def phaseTicks (c : Cfg) (w : ColorWord) (slot : Fin 24) : PtxPhase → Nat
  | .hi => highTicks c (slotSym w slot)
  | .lo => lowTicks c (slotSym w slot)
  | .gap => c.resetTicks

/-- The phase in which a frame is cut: GAP only where the frame has a gap (42_pulse_transmit.md R227). -/
def cutPhase (c : Cfg) (k : Fin 3) : PtxPhase :=
  if k = 0 then .hi else if k = 1 ∨ c.resetTicks = 0 then .lo else .gap

/-- PTX after a frame of `w` that TX.FAULT cut at a free position, and the TX.IDLE edge behind it
(42_pulse_transmit.md R228; notes/assumptions/10.md). The gap follows slot 23 only. -/
def ptxAfterCut (c : Cfg) (w : ColorWord) (n : Nat) : Ptx :=
  let ph := cutPhase c (Config.freeCutPhase n)
  let slot : Fin 24 := if ph = .gap then 23 else Config.freeCutSlot n
  { busy := false
    phase := ph
    slot := slot
    cnt := Config.freeCutCount n % phaseTicks c w slot ph
    word := w
    dout := false
    done := false
    err := false }

/-- The clock edges of a poll cycle: the synchronizer has shifted free levels in (10_state.md R40;
notes/assumptions/11.md), `start_r` is 0 (43_input_fsm.md R292) and PTX is idle (R305). -/
def passEdges (s : State) : State :=
  { s with
    fsm := { s.fsm with
      startR := false
      sync := (List.range s.cfg.syncStages).map (Config.freeStage s.tick) }
    ptx := ptxIdle s.ptx
    tick := s.tick + 1 }

/-- The frame of `w` is sent, with the outcome `s.ans.txr` (43_input_fsm.md R281, R285: `emit Frame(W, txr)`). -/
def showFrame (w : ColorWord) (s : State) : State :=
  emit (.frame w s.ans.txr)
    { s with
      fsm := { s.fsm with wordR := w }
      ptx := match s.ans.txr with
        | .ok => ptxAfterFrame s.cfg w
        | .fault => ptxAfterCut s.cfg w s.tick }

/-- The sleep that ends a poll cycle: `sleep_cnt` stands at its last value (43_input_fsm.md R294). -/
def sleepThrough (s : State) : State :=
  { s with fsm := { s.fsm with sleepCnt := pollTicks s.cfg - 1 } }

end Sys2Proof.Machine
end

