-- ==== Sys2Proof/Machine/Color.lean ====
section
/-! DEFINITION. CVT (40_color_convert.md). -/

namespace Sys2Proof.Machine

/-- CVT (R140): the outputs show the conversion of the operand. An operand out of domain raises `invalid` and stops
nothing, since CVT holds no state (R141, R155). -/
def execCvt (h : BitVec 9) (sat : BitVec 7) (v : BitVec 7) (s : State) : Host.Outcome State Fault Refusal :=
  .next { s with units := { s.units with cvt := cvt h.toNat sat.toNat v.toNat } }

end Sys2Proof.Machine
end

