-- ==== Sys2Proof/Machine/Encoder.lean ====
section
/-! DEFINITION. PACK, ENC and the two pulse symbols (41_frame_encode.md). -/

namespace Sys2Proof.Machine

/-- PACK (R190). DESIGN CHOICE (notes/assumptions/36.md): the frame that ENC's wires show stays, though ENC takes its word
from PACK (R192), because an ENC line of its own applies it (30_encoding.md R115). -/
def execPack (r g b : Byte) (s : State) : Host.Outcome State Fault Refusal :=
  .next { s with units := { s.units with word := packWord r g b } }

/-- ENC (R192). DESIGN CHOICE (notes/assumptions/35.md): the slots are SYM.1 and SYM.0 inside the frame, and the pulse pair
of the symbol last applied by itself stays. DESIGN CHOICE (notes/assumptions/36.md): so does the word of PACK's wires. -/
def execEnc (w : ColorWord) (s : State) : Host.Outcome State Fault Refusal :=
  .next { s with units := { s.units with frame := encFrame w } }

/-- SYM.1 (R194): high for `T1H`, then low for `T1L`. -/
def execSym1 (s : State) : Host.Outcome State Fault Refusal :=
  .next { s with units := { s.units with pulse := ⟨highTicks s.cfg .one, lowTicks s.cfg .one⟩ } }

/-- SYM.0 (R195): high for `T0H`, then low for `T0L`. -/
def execSym0 (s : State) : Host.Outcome State Fault Refusal :=
  .next { s with units := { s.units with pulse := ⟨highTicks s.cfg .zero, lowTicks s.cfg .zero⟩ } }

end Sys2Proof.Machine
end

