-- ==== Sys2Proof/Machine/Poll.lean ====
section
/-! DEFINITION. The poll-level operations POLL.PRESS, POLL.HOLD, POLL.RELEASE, POLL.DEAD (43_input_fsm.md R280 to R287),
each one complete poll cycle with the outcomes `s.ans` (R276). -/

namespace Sys2Proof.Machine

/-- The command step of a press: `emit Cmd(..); if cmdr == err: raise Err(3)`, else the advance of R283 (R281). -/
def sendCommand (s : State) : State :=
  match s.ans.cmdr with
  | .err => raiseErr .transportError (emitCmd .err s)
  | .ok => sleepThrough (advanceScene (emitCmd .ok s))

/-- POLL.PRESS (R281, R282): convert, show, send, advance, in this order; the first error ends the step (R345). DESIGN
CHOICE (notes/assumptions/34.md): the press's own conversion and packing do not show on `State.units`. -/
def execPollPress (s : State) : Host.Outcome State Fault Refusal :=
  if (entryColor s).invalid then .next (raiseErr .invalidColorInput (passEdges s))
  else
    match s.ans.txr with
    | .fault => .next (raiseErr .peripheralError (showFrame (feedbackWord s) (passEdges s)))
    | .ok => .next (sendCommand (showFrame (feedbackWord s) (passEdges s)))

/-- POLL.HOLD (R284): no action; the cycle is its sleep. -/
def execPollHold (s : State) : Host.Outcome State Fault Refusal := .next (sleepThrough (passEdges s))

/-- POLL.RELEASE (R285): the off frame and IDLE in LEVEL mode, or in EDGE mode after a handled press; else nothing. -/
def execPollRelease (s : State) : Host.Outcome State Fault Refusal :=
  if s.cfg.releaseMode = .level ∨ s.fsm.dstate = .handled then
    match s.ans.txr with
    | .fault => .next (raiseErr .peripheralError (showFrame offWord (passEdges s)))
    | .ok => .next (sleepThrough (rearm (showFrame offWord (passEdges s))))
  else .next (sleepThrough (passEdges s))

/-- POLL.DEAD (R287): nothing at all, whatever the level and the outcomes are (notes/assumptions/27.md). -/
def execPollDead (s : State) : Host.Outcome State Fault Refusal := .next s

end Sys2Proof.Machine
end

