-- ==== Sys2Proof/Machine/Reset.lean ====
section
/-! DEFINITION. RST (70_reset_and_hazards.md). -/

namespace Sys2Proof.Machine

/-- RST (R380): every register takes its reset value, and nothing else happens: no event, no PTX or FSM operation, no
shift. A frame in flight is recorded as cut off by reset (R381; notes/assumptions/15.md). -/
def execRst (s : State) : Host.Outcome State Fault Refusal :=
  .next { s with
    fsm := fsmReset s.cfg
    ptx := ptxReset
    cuts := if s.ptx.busy then s.cuts ++ [s.ptx.word] else s.cuts }

end Sys2Proof.Machine
end

