-- ==== Sys2Proof/Machine/Transmit.lean ====
section
/-! DEFINITION. PTX: TX.IDLE, TX.START, TX.RUN, TX.FAULT (42_pulse_transmit.md), each one clock edge of PTX. -/

namespace Sys2Proof.Machine

/-- TX.IDLE (R221). -/
def execTxIdle (s : State) : Host.Outcome State Fault Refusal := .next { s with ptx := ptxIdle s.ptx }

/-- TX.START (R222): the word is latched whole from `word_r`. -/
def execTxStart (s : State) : Host.Outcome State Fault Refusal :=
  .next { s with
    ptx := {
      busy := true
      phase := .hi
      slot := 0
      cnt := 0
      word := s.fsm.wordR
      dout := true
      done := false
      err := false } }

/-- The HI phase of TX.RUN (R225). `cnt + 1 = TH` is the exact `cnt = TH - 1`. -/
def runHi (s : State) : State :=
  if s.ptx.cnt + 1 = thInFlight s then enterPhase .lo s.ptx.slot false s else countTick true s

/-- The LO phase of TX.RUN (R226). -/
def runLo (s : State) : State :=
  if s.ptx.cnt + 1 = tlInFlight s then
    if h : s.ptx.slot.val < 23 then enterPhase .hi ⟨s.ptx.slot.val + 1, by omega⟩ true s
    else if 0 < s.cfg.resetTicks then enterPhase .gap s.ptx.slot false s
    else finishFrame s
  else countTick false s

/-- The GAP phase of TX.RUN (R227). -/
def runGap (s : State) : State :=
  if s.ptx.cnt + 1 = s.cfg.resetTicks then finishFrame s else countTick false s

/-- TX.RUN (R224): one clock period of the frame in flight, by `ptx_phase`. -/
def execTxRun (s : State) : Host.Outcome State Fault Refusal :=
  .next (match s.ptx.phase with
    | .hi => runHi s
    | .lo => runLo s
    | .gap => runGap s)

/-- TX.FAULT (R228): slot, phase, count and word keep their values. -/
def execTxFault (s : State) : Host.Outcome State Fault Refusal := .next (abortFrame s)

end Sys2Proof.Machine
end

