-- ==== Sys2Proof/Machine/Dispatch.lean ====
section
/-! DEFINITION. The operation map: one arm per operation of 30_encoding.md R111. -/

namespace Sys2Proof.Machine

def exec (i : Instr) (s : State) : Host.Outcome State Fault Refusal :=
  match i with
  | .cvt h sat v => Sys2Proof.Machine.execCvt h sat v s
  | .pack r g b => Sys2Proof.Machine.execPack r g b s
  | .enc w => Sys2Proof.Machine.execEnc w s
  | .sym1 => Sys2Proof.Machine.execSym1 s
  | .sym0 => Sys2Proof.Machine.execSym0 s
  | .txIdle _ => Sys2Proof.Machine.execTxIdle s
  | .txStart _ => Sys2Proof.Machine.execTxStart s
  | .txRun _ => Sys2Proof.Machine.execTxRun s
  | .txFault _ => Sys2Proof.Machine.execTxFault s
  | .pollPress => Sys2Proof.Machine.execPollPress s
  | .pollHold => Sys2Proof.Machine.execPollHold s
  | .pollRelease _ => Sys2Proof.Machine.execPollRelease s
  | .pollDead _ _ => Sys2Proof.Machine.execPollDead s
  | .rst => Sys2Proof.Machine.execRst s

end Sys2Proof.Machine
end

