-- ==== Sys2Proof/Machine/Edge.lean ====
section
/-! DEFINITION. One rising edge of `clk_i` for the whole block: the clock-level rules of 43_input_fsm.md R288 to R295. -/

namespace Sys2Proof.Machine

/-- The levels of the pins up to the next edge: free (10_state.md R31; notes/assumptions/4.md), but `rst_i` is 0 where a
line `RST` has released it (30_encoding.md R115; notes/assumptions/33.md). -/
def nextPins (s : State) : Pins :=
  { Config.freePins s.tick with rst := !s.rstLow && (Config.freePins s.tick).rst }

/-- After an edge the outside world drives its next levels. -/
def afterEdge (s : State) : State := { s with pins := nextPins s, tick := s.tick + 1 }

/-- `fsm_phase <- ph` (43_input_fsm.md R289 to R294). -/
def goto (ph : Phase) (t : State) : State := { t with fsm := { t.fsm with phase := ph } }

/-- `sleep_cnt <- 0; fsm_phase <- SLEEP` (43_input_fsm.md R289, R291, R293). -/
def enterSleep (t : State) : State := { t with fsm := { t.fsm with sleepCnt := 0, phase := .sleep } }

/-- `word_r <- w; start_r <- 1; fsm_phase <- ph` (43_input_fsm.md R289). -/
def requestFrame (w : ColorWord) (ph : Phase) (t : State) : State :=
  { t with fsm := { t.fsm with wordR := w, startR := true, phase := ph } }

/-- The synchronizer's shift and the implicit `start_r <- 0` (10_state.md R40, 43_input_fsm.md R288, R292), applied to
the state `t` in which PTX has run, with the old values of `s`. -/
def shiftSync (s t : State) : State :=
  { t with fsm := { t.fsm with
      startR := false
      sync := (s.pins.btn :: s.fsm.sync).take s.cfg.syncStages } }

/-- SAMPLE (R289). Every condition reads the state `s` before the edge; the updates go to `t`. DESIGN CHOICE
(notes/assumptions/34.md): the FSM's own use of CVT and PACK does not show on `State.units`. -/
def sampleEdge (lvl : Bool) (s t : State) : State :=
  if lvl = false ∧ s.fsm.dstate = .idle then
    if (entryColor s).invalid then raiseErr .invalidColorInput t
    else requestFrame (feedbackWord s) .showP t
  else if lvl = false then enterSleep t
  else if s.cfg.releaseMode = .level ∨ s.fsm.dstate = .handled then requestFrame offWord .showR t
  else enterSleep t

/-- SHOW_P (R290). -/
def showPEdge (s t : State) : State :=
  if s.ptx.done then
    if s.ptx.err then raiseErr .peripheralError t else goto .send t
  else t

/-- SEND (R291): the handshake of R300. -/
def sendEdge (s t : State) : State :=
  if s.pins.cmdAck then
    if s.pins.cmdErr then raiseErr .transportError (emitCmd .err t)
    else enterSleep (advanceScene (emitCmd .ok t))
  else t

/-- SHOW_R (R293). -/
def showREdge (s t : State) : State :=
  if s.ptx.done then
    if s.ptx.err then raiseErr .peripheralError t else enterSleep (rearm t)
  else t

/-- SLEEP (R294). `sleep_cnt + 1 = POLL_TICKS` is the exact `sleep_cnt = POLL_TICKS - 1`. -/
def sleepEdge (s t : State) : State :=
  if s.fsm.sleepCnt + 1 = pollTicks s.cfg then goto .sample t
  else { t with fsm := { t.fsm with sleepCnt := s.fsm.sleepCnt + 1 } }

/-- The FSM's one rule for its phase (R288 to R295). FATAL changes nothing (R295). -/
def fsmEdge (lvl : Bool) (s t : State) : State :=
  match s.fsm.phase with
  | .sample => sampleEdge lvl s t
  | .showP => showPEdge s t
  | .send => sendEdge s t
  | .showR => showREdge s t
  | .sleep => sleepEdge s t
  | .fatal => t

/-- An edge with `rst_i` = 0 (R288): the synchronizer shifts, PTX runs the operation its PTXCTL selects, and the FSM runs
its rule, all from the values before the edge. -/
def runEdge (s : State) : Host.Outcome State Fault Refusal :=
  match lvl? s with
  | none => .fault .noSyncStage
  | some lvl => mapNext (fun t => fsmEdge lvl s (shiftSync s t)) (exec (ptxSelected s s.pins.txFault) s)

/-- One rising edge: RST when `rst_i` = 1, and then no other operation runs (30_encoding.md R108). -/
def clockEdge (s : State) : Host.Outcome State Fault Refusal :=
  mapNext afterEdge (if s.pins.rst then exec .rst s else runEdge s)

end Sys2Proof.Machine
end

