-- ==== Sys2Proof/Machine/Bench.lean ====
section
/-! DEFINITION. What a step does with the next line of stimulus (30_encoding.md R115; notes/assumptions/6.md). -/

namespace Sys2Proof.Machine

/-- The poll-level step `pollStep(Cfg, st, lvl, txr, cmdr)` (43_input_fsm.md R280): POLLCTL is formed from the state and
the level, and its operation runs with these outcomes. -/
def pollStep (lvl : Bool) (txr : TxResult) (cmdr : CmdResult) (s : State) : Host.Outcome State Fault Refusal :=
  exec (pollSelected s lvl) { s with ans := ⟨txr, cmdr⟩ }

/-- One edge of PTX alone, the FSM held off (95_test_vectors.md P5): the operation PTXCTL selects for this start request
and fault level, and the synchronizer's shift, which happens at every edge (10_state.md R40, 43_input_fsm.md R288). A
request puts its word in `word_r`; `start_r` is 0 after the edge (43 R292). DESIGN CHOICE (notes/assumptions/7.md): the
FSM's rule does not run, and `rst_i` is 0 at such an edge whatever `pins.rst` is. -/
def ptxOnlyEdge (start : Option ColorWord) (fault : Bool) (s : State) : Host.Outcome State Fault Refusal :=
  mapNext (fun t => afterEdge (shiftSync s t))
    (exec (ptxctlOp s.ptx.busy start.isSome fault) { s with fsm := { s.fsm with wordR := start.getD s.fsm.wordR } })

/-- Keep a `TX` line until its frame has ended at `ptx_done` (30_encoding.md R115). -/
def untilDone (s : State) : State := if s.ptx.done then s else { s with stim := .untilDone :: s.stim }

/-- An operand word on a unit's inputs: the operation it decodes to (30_encoding.md R112). -/
def runOperand (f : UnitFormat) (word : Nat) (s : State) : Host.Outcome State Fault Refusal :=
  match decode (unitFormat f) word with
  | .op i => exec i s
  | .rejected _ => .refused .operandTooWide

/-- A line `RST`: `rst_i` = 1 for one edge, then 0 until another line drives it (30_encoding.md R115). -/
def resetLine (s : State) : Host.Outcome State Fault Refusal := mapNext afterEdge (exec .rst { s with rstLow := true })

/-- A line of stimulus, already taken from the queue of `s` (30_encoding.md R115). Three points R115 leaves open are the
model's choice. DESIGN CHOICE (notes/assumptions/17.md): a `POLL` line that finds the FSM inside a poll cycle waits for its
end, edge by edge, and one that finds PTX sending a frame waits for that end on edges of PTX alone, with `tx_fault_i` 0
whatever `pins.txFault` is. DESIGN CHOICE (notes/assumptions/32.md): a line `TX w` met while PTX sends another frame puts
`w` in `word_r`, its request is ignored (42_pulse_transmit.md R224), and the line ends at that frame's `ptx_done`. -/
def runLine (l : Line) (s : State) : Host.Outcome State Fault Refusal :=
  match l with
  | .rst => resetLine s
  | .poll lvl txr cmdr =>
    if atPollPoint s then
      if s.ptx.busy then ptxOnlyEdge none false { s with stim := .poll lvl txr cmdr :: s.stim }
      else mapNext afterEdge (pollStep lvl txr cmdr s)
    else clockEdge { s with stim := .poll lvl txr cmdr :: s.stim }
  | .operand f word => runOperand f word s
  | .tx w => mapNext untilDone (ptxOnlyEdge (some w) false s)
  | .untilDone => mapNext untilDone (ptxOnlyEdge none false s)
  | .wait 0 => .next s
  | .wait 1 => ptxOnlyEdge none false s
  | .wait (n + 2) => ptxOnlyEdge none false { s with stim := .wait (n + 1) :: s.stim }
  | .ptxEdge start fault => ptxOnlyEdge start fault s
  | .edge p => clockEdge { s with pins := p, rstLow := false }

/-- The next line if there is one; else a clock edge with the pins as they stand (43_input_fsm.md R288). -/
def runNext (s : State) : Host.Outcome State Fault Refusal :=
  match s.stim with
  | [] => clockEdge s
  | l :: rest => runLine l { s with stim := rest }

/-- The poll-level program of a pseudo-operation (30_encoding.md R116), none where it is not valid. -/
def expandPseudo (p : PseudoLine) : Option (List Line) :=
  if p.wf then
    some (match p with
      | .press n => List.replicate n (.poll false .ok .ok)
      | .release => [.poll true .ok .ok]
      | .click => [.poll false .ok .ok, .poll true .ok .ok]
      | .showColor h sat v =>
        let o := cvt h.toNat sat.toNat v.toNat
        [.operand .hsv23 (encode (.cvt h sat v)).2, .operand .rgb24 (encode (.pack o.r o.g o.b)).2,
          .tx (packWord o.r o.g o.b)])
  else none

/-- The state and the line of stimulus with which the very next step runs the operation `i` (notes/assumptions/6.md). An
operation that WIZCORE selects from its own registers needs those registers set (30_encoding.md R106, R107). -/
def present (i : Instr) (s : State) : State :=
  match i with
  | .cvt _ _ _ => { s with stim := .operand .hsv23 (encode i).2 :: s.stim }
  | .pack _ _ _ => { s with stim := .operand .rgb24 (encode i).2 :: s.stim }
  | .enc _ => { s with stim := .operand .frame24 (encode i).2 :: s.stim }
  | .sym1 => { s with stim := .operand .sym 1 :: s.stim }
  | .sym0 => { s with stim := .operand .sym 0 :: s.stim }
  | .txIdle fault => { s with ptx := { s.ptx with busy := false }, stim := .ptxEdge none fault :: s.stim }
  | .txStart fault =>
    { s with ptx := { s.ptx with busy := false }, stim := .ptxEdge (some s.fsm.wordR) fault :: s.stim }
  | .txRun start =>
    { s with
      ptx := { s.ptx with busy := true }
      stim := .ptxEdge (if start then some s.fsm.wordR else none) false :: s.stim }
  | .txFault start =>
    { s with
      ptx := { s.ptx with busy := true }
      stim := .ptxEdge (if start then some s.fsm.wordR else none) true :: s.stim }
  | .pollPress =>
    { s with
      fsm := { s.fsm with phase := .sample, dstate := .idle }
      stim := .poll false s.ans.txr s.ans.cmdr :: s.stim }
  | .pollHold =>
    { s with
      fsm := { s.fsm with phase := .sample, dstate := .handled }
      stim := .poll false s.ans.txr s.ans.cmdr :: s.stim }
  | .pollRelease d =>
    { s with
      fsm := { s.fsm with phase := .sample, dstate := d }
      stim := .poll true s.ans.txr s.ans.cmdr :: s.stim }
  | .pollDead lvl d =>
    { s with
      fsm := { s.fsm with phase := .fatal, dstate := d }
      stim := .poll lvl s.ans.txr s.ans.cmdr :: s.stim }
  | .rst => { s with stim := .rst :: s.stim }

/-- The state in which the operation of a bare table word runs next; unchanged where the word is none. -/
def presentWord (nbits w : Nat) (s : State) : State :=
  match decodeTableWord nbits w with
  | some i => present i s
  | none => s

end Sys2Proof.Machine
end

