-- ==== Sys2Proof/Machine/Step.lean ====
section
/-! DEFINITION. One step of WIZCORE (43_input_fsm.md R288, 30_encoding.md R115). -/

namespace Sys2Proof.Machine

/-- One step: the next line of stimulus, or a clock edge when none is queued. An illegal configuration is refused
(00_scope.md R10). -/
def step (s : State) : Host.Outcome State Fault Refusal :=
  if cfgLegal s.cfg then runNext s else .refused .illegalConfig

/-- `s` with the operation of a bare table word about to run (notes/assumptions/6.md, 13.md). -/
def State.withFetchWord (s : State) (nbits w : Nat) : State := presentWord nbits w s

end Sys2Proof.Machine
end

