-- ==== Sys2Proof/Machine/ColorSource.lean ====
section
/-! DEFINITION. The source's own definition of the conversion, in exact rationals, step by step (40_color_convert.md R143
to R148). The machine runs the integer form of R140; this one is stated beside it so that R149 can be claimed. -/

namespace Sys2Proof.Machine

/-- `V := v / 100` (R143). -/
def srcValue (v : Nat) : ℚ := (v : ℚ) / 100

/-- `c := V * S` (R143, R144). -/
def srcChroma (s v : Nat) : ℚ := srcValue v * ((s : ℚ) / 100)

/-- `q mod 2` for a rational `q ≥ 0`, which is `q - 2*floor(q / 2)` (R145). -/
def ratMod2 (q : ℚ) : ℚ := q - 2 * (⌊q / 2⌋ : ℤ)

/-- `x := c * (1 - |((h / 60) mod 2) - 1|)` (R145). -/
def srcX (h s v : Nat) : ℚ := srcChroma s v * (1 - |ratMod2 ((h : ℚ) / 60) - 1|)

/-- `m := V - c` (R146). -/
def srcOffset (s v : Nat) : ℚ := srcValue v - srcChroma s v

/-- The intervals of R147, the first five half-open and the last closed. -/
def srcTriple (h s v : Nat) : ℚ × ℚ × ℚ :=
  let c := srcChroma s v
  let x := srcX h s v
  if h < 60 then (c, x, 0)
  else if h < 120 then (x, c, 0)
  else if h < 180 then (0, c, x)
  else if h < 240 then (0, x, c)
  else if h < 300 then (x, 0, c)
  else (c, 0, x)

/-- `floor((component + m) * 255)` (R148). -/
def srcChannel (comp m : ℚ) : ℤ := ⌊(comp + m) * 255⌋

/-- The three channels of a legal triple by the source's definition (R148). -/
def srcChannels (h s v : Nat) : ℤ × ℤ × ℤ :=
  let t := srcTriple h s v
  let m := srcOffset s v
  (srcChannel t.1 m, srcChannel t.2.1 m, srcChannel t.2.2 m)

end Sys2Proof.Machine
end

