-- ==== Sys2Proof/Machine/Datagram.lean ====
section
/-! DEFINITION. The command sender's datagram text (43_input_fsm.md R303). It is the sender's contract, outside WIZCORE; no
step uses it. The text is given as its UTF-8 code units, all of them ASCII. -/

namespace Sys2Proof.Machine

/-- The digits of `n` in base 10, least significant first, for a number of at most `fuel` digits. -/
def digitsRev : (fuel n : Nat) → List Nat
  | 0, _ => []
  | fuel + 1, n => if n < 10 then [48 + n] else (48 + n % 10) :: digitsRev fuel (n / 10)

/-- The unsigned decimal text of a field of at most 8 bits, with no leading zeros and 0 written `0` (R303). -/
def decimalText (n : Nat) : List Nat := (digitsRev 3 n).reverse

/-- The characters of a text, each one code unit. -/
def asciiText (t : String) : List Nat := t.toList.map Char.toNat

/-- The payload for an acknowledged command (n, id, dim): the object with the two members "method" and "params", and no
whitespace (R303). 123 and 125 are the opening and the closing brace. -/
def datagramText (id : BitVec 8) (dim : BitVec 7) : List Nat :=
  [123] ++ asciiText "\"method\":\"setPilot\",\"params\":" ++ [123] ++ asciiText "\"sceneId\":" ++ decimalText id.toNat
    ++ asciiText ",\"dimming\":" ++ decimalText dim.toNat ++ [125, 125]

end Sys2Proof.Machine
end

