-- ==== Sys2Proof/Safety.lean ====
section
/-! DEFINITION. The words claims are stated in: the invariants of the registers (10_state.md), the handshake between FSM and
PTX (43_input_fsm.md R305), the host's duties (70_reset_and_hazards.md), frame lengths, runs at the poll level. -/

namespace Sys2Proof.Machine

/-- The synchronizer has `SYNC_STAGES` stages (10_state.md R40), ENC's output 24 slots (20_memory.md R70). -/
abbrev ShapeOk (s : State) : Prop :=
  s.fsm.sync.length = s.cfg.syncStages ∧ s.units.frame.length = 24

/-- `err_code` is NONE exactly while not fatal (10_state.md R38), and `sleep_cnt` is in range (R37). -/
abbrev FsmOk (s : State) : Prop :=
  (s.fsm.errCode = .none ↔ s.fsm.phase ≠ .fatal) ∧ s.fsm.sleepCnt < pollTicks s.cfg

/-- The count never exceeds the longest phase minus one (10_state.md R43); while a frame is in flight it lies within the
phase, and a gap follows slot 23 only (R42); the line is high exactly in the high parts (42 R220, R225); a done pulse
finds PTX idle, and an error comes with it only (10_state.md R45). -/
abbrev PtxOk (s : State) : Prop :=
  s.ptx.cnt < maxPhaseTicks s.cfg ∧
  (s.ptx.busy = true → s.ptx.cnt < phaseTicks s.cfg s.ptx.word s.ptx.slot s.ptx.phase) ∧
  (s.ptx.busy = true → s.ptx.phase = .gap → s.ptx.slot = 23) ∧
  (s.ptx.dout = true ↔ s.ptx.busy = true ∧ s.ptx.phase = .hi) ∧
  (s.ptx.done = true → s.ptx.busy = false) ∧
  (s.ptx.err = true → s.ptx.done = true)

/-- The invariant every step keeps. -/
abbrev RegsOk (s : State) : Prop := ShapeOk s ∧ FsmOk s ∧ PtxOk s

/-- A line of stimulus that drives the whole block, not PTX with the FSM held off (30_encoding.md R115). -/
def wholeBlock : Line → Bool
  | .rst | .poll _ _ _ | .operand _ _ | .edge _ => true
  | .tx _ | .untilDone | .wait _ | .ptxEdge _ _ => false

/-- No request, no frame, no report: PTX waits for the FSM (43_input_fsm.md R305). -/
abbrev PtxFree (s : State) : Prop := s.fsm.startR = false ∧ s.ptx.busy = false ∧ s.ptx.done = false

/-- Exactly one of the three stages of a frame: requested, in flight, reported (43_input_fsm.md R290, R292, R293), and the
word in flight is the word requested. -/
abbrev PtxServing (s : State) : Prop :=
  (s.fsm.startR = true ∧ s.ptx.busy = false ∧ s.ptx.done = false) ∨
  (s.fsm.startR = false ∧ s.ptx.busy = true ∧ s.ptx.done = false ∧ s.ptx.word = s.fsm.wordR) ∨
  (s.fsm.startR = false ∧ s.ptx.busy = false ∧ s.ptx.done = true ∧ s.ptx.word = s.fsm.wordR)

/-- The FSM and PTX in step (43_input_fsm.md R290 to R293, R305): in SHOW_P and SHOW_R PTX serves one frame, whose word is
the one the cycle shows; in every other phase it is free. In SHOW_P and SEND the press is unhandled. -/
abbrev Handshake (s : State) : Prop :=
  match s.fsm.phase with
  | .showP => PtxServing s ∧ s.fsm.dstate = .idle ∧ s.fsm.wordR = feedbackWord s
  | .send => PtxFree s ∧ s.fsm.dstate = .idle
  | .showR => PtxServing s ∧ (s.cfg.releaseMode = .level ∨ s.fsm.dstate = .handled) ∧ s.fsm.wordR = offWord
  | .sample | .sleep | .fatal => PtxFree s

/-- A sender that breaks its duties: an acknowledge while no command is offered, or an error without an acknowledge
(70_reset_and_hazards.md R391, 93_implementation_defined.md I13). WIZCORE ignores it. -/
def senderBreach (s : State) : Bool :=
  (s.pins.cmdAck && !decide (s.fsm.phase = .send)) || (s.pins.cmdErr && !s.pins.cmdAck)

/-- `popcount(W)` (41_frame_encode.md R197). -/
def popcount (w : ColorWord) : Nat := (List.range 24).countP (fun i => w.getLsbD i)

/-- `Σ (TH_i + TL_i)` over the slots `i` below `n` (42_pulse_transmit.md R229). -/
def slotTicks (c : Cfg) (w : ColorWord) : Nat → Nat
  | 0 => 0
  | n + 1 => slotTicks c w n + highTicks c (symOfBit (w.getLsbD (23 - n))) + lowTicks c (symOfBit (w.getLsbD (23 - n)))

/-- The length of a frame in edges, from TX.START to the done edge (42_pulse_transmit.md R229). -/
def frameTicks (c : Cfg) (w : ColorWord) : Nat := slotTicks c w 24 + c.resetTicks

/-- The levels of the line in the clock periods of the slots below `n`: high for `TH_i`, then low for `TL_i`
(42_pulse_transmit.md R229). -/
def slotLevels (c : Cfg) (w : ColorWord) : Nat → List Bool
  | 0 => []
  | n + 1 =>
    slotLevels c w n ++ List.replicate (highTicks c (symOfBit (w.getLsbD (23 - n)))) true
      ++ List.replicate (lowTicks c (symOfBit (w.getLsbD (23 - n)))) false

/-- The levels of the line from TX.START to the done edge (42_pulse_transmit.md R229). -/
def frameLevels (c : Cfg) (w : ColorWord) : List Bool :=
  slotLevels c w 24 ++ List.replicate c.resetTicks false

/-- Poll-level steps with the samples `lvls`, every outcome ok (43_input_fsm.md R298). -/
def pollRun : List Bool → State → Host.Outcome State Fault Refusal
  | [], s => .next s
  | l :: ls, s =>
    match pollStep l .ok .ok s with
    | .next t => pollRun ls t
    | .fault r => .fault r
    | .refused r => .refused r

/-- The levels of the pins at the edge the next step takes: a line's, or those of the state (30_encoding.md R115). -/
def pinsNow (s : State) : Pins :=
  match s.stim with
  | .edge p :: _ => p
  | [] | .rst :: _ | .poll _ _ _ :: _ | .operand _ _ :: _ | .tx _ :: _ | .untilDone :: _ | .wait _ :: _
  | .ptxEdge _ _ :: _ => s.pins

/-- The next step is a reset: an edge with `rst_i` = 1, or a line `RST` (30_encoding.md R108, R115). -/
def resetNow (s : State) : Bool :=
  match s.stim with
  | [] => s.pins.rst
  | .rst :: _ => true
  | .edge p :: _ => p.rst
  | .poll _ _ _ :: _ => !atPollPoint s && s.pins.rst
  | .operand _ _ :: _ | .tx _ :: _ | .untilDone :: _ | .wait _ :: _ | .ptxEdge _ _ :: _ => false

/-- The FSM registers after an edge on which the phase's own rule changes nothing: `start_r <- 0` and the shift
(10_state.md R40, 43_input_fsm.md R292). -/
def edgeBase (s : State) : Fsm :=
  { s.fsm with startR := false, sync := (s.pins.btn :: s.fsm.sync).take s.cfg.syncStages }

/-- The state `s` about to take the edges `ps` of a waveform (95_test_vectors.md section 3.4), and nothing after them. -/
def withEdges (ps : List Pins) (s : State) : State := { s with stim := ps.map Line.edge }

/-- A command event (43_input_fsm.md R296). -/
def isCmd : Event → Bool
  | .cmd _ _ _ _ => true
  | .frame _ _ | .fatal _ => false

/-- A frame event (43_input_fsm.md R296). -/
def isFrame : Event → Bool
  | .frame _ _ => true
  | .cmd _ _ _ _ | .fatal _ => false

end Sys2Proof.Machine
end

