-- ==== Sys2Proof/Certificates/Slice0/Obligations.lean ====
section
/-! DEFINITION. The statements for the provers. Each docstring names the rule of spec/ it formalises. -/

open Sys2Proof Sys2Proof.Machine

/-! ### CVT -/

/-- R140, R141: the pseudocode of CVT, both branches, with everything else of the state unchanged. -/
def Obligations.CvtConvertsOrRejects : Prop :=
  ∀ (h : BitVec 9) (sat v : BitVec 7) (s : State),
    let H := h.toNat
    let S := sat.toNat
    let V := v.toNat
    let k := min (H / 60) 5
    let F := if k % 2 = 0 then H - 60 * k else 60 * (k + 1) - H
    let Q := fun f : Nat => 17 * V * (S * f + 6000 - 60 * S) / 40000
    ∃ o : CvtOut, exec (.cvt h sat v) s = .next { s with units := { s.units with cvt := o } } ∧
      (360 < H ∨ 100 < S ∨ 100 < V → o = ⟨0#8, 0#8, 0#8, true⟩) ∧
      (H ≤ 360 → S ≤ 100 → V ≤ 100 →
        o.invalid = false ∧
        (o.r.toNat, o.g.toNat, o.b.toNat) =
          (if k = 0 then (Q 60, Q F, Q 0)
          else if k = 1 then (Q F, Q 60, Q 0)
          else if k = 2 then (Q 0, Q 60, Q F)
          else if k = 3 then (Q 0, Q F, Q 60)
          else if k = 4 then (Q F, Q 0, Q 60)
          else (Q 60, Q 0, Q F)))

/-- R149: over exact rationals each channel's value before the floor is `17*v*(s*f + 6000 - 60*s)/40000`, with f = 60, F
or 0 for a component c, x or 0; so the integer form equals R143 to R148; no numerator exceeds 10 200 000. -/
def Obligations.CvtEqualsSourceDefinition : Prop :=
  ∀ h s v : Nat, h ≤ 360 → s ≤ 100 → v ≤ 100 →
    let N := fun f : Nat => 17 * v * (s * f + 6000 - 60 * s)
    (srcChroma s v + srcOffset s v) * 255 = (N 60 : ℚ) / 40000 ∧
    (srcX h s v + srcOffset s v) * 255 = (N (fold h) : ℚ) / 40000 ∧
    (0 + srcOffset s v) * 255 = (N 0 : ℚ) / 40000 ∧
    (∀ f, f ≤ 60 → N f ≤ 10200000) ∧
    srcChannels h s v =
      (((channels h s v).1 : ℤ), ((channels h s v).2.1 : ℤ), ((channels h s v).2.2 : ℤ))

/-- R150: every legal input gives `invalid` = 0 and channels of at most 255; the largest is (51 * v) div 20. -/
def Obligations.LegalColorsFitEightBits : Prop :=
  ∀ h s v : Nat, h ≤ 360 → s ≤ 100 → v ≤ 100 →
    (cvt h s v).invalid = false ∧ chanQ s v 60 = 51 * v / 20 ∧ chanQ s v 60 ≤ 255 ∧ fold h ≤ 60 ∧
      (∀ f, f ≤ 60 → 60 * s ≤ s * f + 6000 ∧ s * f + 6000 - 60 * s ≤ 6000 ∧ chanQ s v f ≤ chanQ s v 60) ∧
      (cvt h s v).r.toNat = (channels h s v).1 ∧ (cvt h s v).g.toNat = (channels h s v).2.1 ∧
      (cvt h s v).b.toNat = (channels h s v).2.2

/-- R151: h = 360 gives the result of h = 0, and at an inner boundary h = 60j the sector on the right gives the triple of
the limit of the sector on the left (odd sectors end with F = 0, even ones with F = 60). -/
def Obligations.HueMeetsAtSectorBoundaries : Prop :=
  (∀ s v : Nat, cvt 360 s v = cvt 0 s v) ∧
  (∀ j s v : Nat, 1 ≤ j → j ≤ 5 →
    channels (60 * j) s v =
      arrange (j - 1) (chanQ s v 60) (chanQ s v (if (j - 1) % 2 = 0 then 60 else 0)) (chanQ s v 0))

/-- R152, R153: s = 0 gives a gray whatever the hue, v = 0 gives black. -/
def Obligations.GrayAndBlackColors : Prop :=
  (∀ f v : Nat, chanQ 0 v f = 51 * v / 20) ∧
  (∀ h v : Nat, h ≤ 360 → v ≤ 100 →
    cvt h 0 v = ⟨BitVec.ofNat 8 (51 * v / 20), BitVec.ofNat 8 (51 * v / 20), BitVec.ofNat 8 (51 * v / 20), false⟩) ∧
  (∀ h s : Nat, h ≤ 360 → s ≤ 100 → cvt h s 0 = ⟨0#8, 0#8, 0#8, false⟩)

/-- R156: the source's five sanity values. -/
def Obligations.RoundTripSanityColors : Prop :=
  cvt 0 100 100 = ⟨255#8, 0#8, 0#8, false⟩ ∧ cvt 120 100 100 = ⟨0#8, 255#8, 0#8, false⟩ ∧
  cvt 240 100 100 = ⟨0#8, 0#8, 255#8, false⟩ ∧ cvt 0 0 100 = ⟨255#8, 255#8, 255#8, false⟩ ∧
  cvt 0 0 0 = ⟨0#8, 0#8, 0#8, false⟩

/-! ### PACK, ENC, the symbols -/

/-- R190, R191: the word is `r<<16 | g<<8 | b`, each channel unchanged in its own field, and the packing is a bijection. What
ENC's wires show after it is the model's own, in PackAndEncKeepTheOtherWires. -/
def Obligations.PackPlacesChannelsBijectively : Prop :=
  (∀ (r g b : Byte) (s : State), ∃ (w : ColorWord) (f : Frame),
    exec (.pack r g b) s = .next { s with units := { s.units with word := w, frame := f } } ∧
    w.toNat = r.toNat * 65536 + g.toNat * 256 + b.toNat ∧
    w.extractLsb' 16 8 = r ∧ w.extractLsb' 8 8 = g ∧ w.extractLsb' 0 8 = b) ∧
  Function.Bijective (fun q : Byte × Byte × Byte => packWord q.1 q.2.1 q.2.2)

/-- R192, with R75: slot i of the frame carries `W[23 - i]`, for all 24 slots, and nothing else changes; what becomes
of the pulse pair of a lone symbol and of PACK's wires is the model's own, in EncLeavesThePulsePair and
PackAndEncKeepTheOtherWires. -/
def Obligations.EncPlacesEachBit : Prop :=
  ∀ (w : ColorWord) (s : State), ∃ (f : Frame) (q : Pulse) (w' : ColorWord),
    exec (.enc w) s = .next { s with units := { s.units with frame := f, pulse := q, word := w' } } ∧ f.length = 24 ∧
    ∀ i : Fin 24, frameRead f i = some (if w.getLsbD (23 - i.val) then .one else .zero)

/-- ENC leaves the pulse pair of the last lone symbol: the model's choice, notes/assumptions/35.md. -/
def Obligations.EncLeavesThePulsePair : Prop :=
  ∀ (w : ColorWord) (s : State), ∃ t, exec (.enc w) s = .next t ∧ t.units.pulse = s.units.pulse

/-- PACK leaves the frame that ENC's wires show, and ENC the word that PACK's wires show: the model's choice,
notes/assumptions/36.md. -/
def Obligations.PackAndEncKeepTheOtherWires : Prop :=
  (∀ (r g b : Byte) (s : State), ∃ t, exec (.pack r g b) s = .next t ∧ t.units.frame = s.units.frame) ∧
  (∀ (w : ColorWord) (s : State), ∃ t, exec (.enc w) s = .next t ∧ t.units.word = s.units.word)

/-- R197: the number of ONE slots of ENC(W) is popcount(W). -/
def Obligations.OneSlotsCountSetBits : Prop :=
  ∀ w : ColorWord, (encFrame w).countP (fun x => decide (x = .one)) = popcount w

/-- R198: the length of the 24 symbols of ENC(W), in nanoseconds and in clock periods, by the number of ones; PTX adds
RESET_TICKS (R229). -/
def Obligations.FrameLengthByPopcount : Prop :=
  ∀ (c : Cfg) (w : ColorWord),
    ((encFrame w).map (fun x => if x = .one then 700 + 600 else 350 + 800)).sum =
      1300 * popcount w + 1150 * (24 - popcount w) ∧
    1300 * popcount w + 1150 * (24 - popcount w) = 27600 + 150 * popcount w ∧
    27600 + 150 * popcount w ≤ 31200 ∧
    slotTicks c w 24 = popcount w * (t1h c + t1l c) + (24 - popcount w) * (t0h c + t0l c) ∧
    frameTicks c w = slotTicks c w 24 + c.resetTicks

/-- R194, R195: the pulse pairs of the two symbols, in clock periods of R12. -/
def Obligations.SymbolPulsePairs : Prop :=
  ∀ s : State,
    let T := fun ns : Nat => (ns * s.cfg.clkHz + 500000000) / 1000000000
    exec .sym1 s = .next { s with units := { s.units with pulse := ⟨T 700, T 600⟩ } } ∧
    exec .sym0 s = .next { s with units := { s.units with pulse := ⟨T 350, T 800⟩ } }

/-- R232: a tick count differs from its exact value by at most half a clock period, and all four durations are exact
when and only when CLK_HZ is a multiple of 20 MHz. -/
def Obligations.TicksRoundToNearest : Prop :=
  (∀ (c : Cfg) (ns : Nat), 2 * |(ticks c ns : ℤ) * 1000000000 - (ns * c.clkHz : ℕ)| ≤ 1000000000) ∧
  (∀ c : Cfg,
    (t1h c * 1000000000 = 700 * c.clkHz ∧ t1l c * 1000000000 = 600 * c.clkHz ∧
      t0h c * 1000000000 = 350 * c.clkHz ∧ t0l c * 1000000000 = 800 * c.clkHz) ↔ 20000000 ∣ c.clkHz)

/-! ### PTX -/

/-- R221. -/
def Obligations.TxIdleClearsTheReport : Prop :=
  ∀ (fault : Bool) (s : State),
    exec (.txIdle fault) s = .next { s with ptx := { s.ptx with dout := false, done := false, err := false } }

/-- R222. -/
def Obligations.TxStartLatchesTheWord : Prop :=
  ∀ (fault : Bool) (s : State),
    exec (.txStart fault) s = .next { s with
      ptx := {
        word := s.fsm.wordR, slot := 0, phase := .hi, cnt := 0, busy := true, dout := true, done := false,
        err := false } }

/-- R225, with the names of R223. -/
def Obligations.TxRunHighPart : Prop :=
  ∀ (start : Bool) (s : State), s.ptx.phase = .hi →
    let TH : ℕ := if s.ptx.word.getLsbD (23 - s.ptx.slot.val) then t1h s.cfg else t0h s.cfg
    exec (.txRun start) s = .next (
      if (s.ptx.cnt : ℤ) = (TH : ℤ) - 1 then
        { s with ptx := { s.ptx with phase := .lo, cnt := 0, dout := false } }
      else { s with ptx := { s.ptx with cnt := s.ptx.cnt + 1, dout := true } })

/-- R226, with the names of R223. That the event of the completed frame (R296) enters the trace at the ending edge is the
model's choice, notes/assumptions/31.md; R226 gives the registers only. -/
def Obligations.TxRunLowPart : Prop :=
  ∀ (start : Bool) (s : State), s.ptx.phase = .lo →
    let TL : ℕ := if s.ptx.word.getLsbD (23 - s.ptx.slot.val) then t1l s.cfg else t0l s.cfg
    ∃ t, exec (.txRun start) s = .next t ∧
      ((s.ptx.cnt : ℤ) ≠ (TL : ℤ) - 1 →
        t = { s with ptx := { s.ptx with cnt := s.ptx.cnt + 1, dout := false } }) ∧
      ((s.ptx.cnt : ℤ) = (TL : ℤ) - 1 → ∀ next : Fin 24, next.val = s.ptx.slot.val + 1 →
        t = { s with ptx := { s.ptx with slot := next, phase := .hi, cnt := 0, dout := true } }) ∧
      ((s.ptx.cnt : ℤ) = (TL : ℤ) - 1 → s.ptx.slot = 23 → 0 < s.cfg.resetTicks →
        t = { s with ptx := { s.ptx with phase := .gap, cnt := 0, dout := false } }) ∧
      ((s.ptx.cnt : ℤ) = (TL : ℤ) - 1 → s.ptx.slot = 23 → s.cfg.resetTicks = 0 →
        t = { s with
          ptx := { s.ptx with busy := false, done := true, err := false, dout := false }
          trace := s.trace ++ [.frame s.ptx.word .ok] })

/-- R227. That the event of the completed frame (R296) enters the trace at the gap's last edge is the model's choice,
notes/assumptions/31.md; R227 gives the registers only. -/
def Obligations.TxRunGapPart : Prop :=
  ∀ (start : Bool) (s : State), s.ptx.phase = .gap →
    exec (.txRun start) s = .next (
      if (s.ptx.cnt : ℤ) = (s.cfg.resetTicks : ℤ) - 1 then
        { s with
          ptx := { s.ptx with busy := false, done := true, err := false, dout := false }
          trace := s.trace ++ [.frame s.ptx.word .ok] }
      else { s with ptx := { s.ptx with cnt := s.ptx.cnt + 1, dout := false } })

/-- R228. That the event of the cut frame (R296) enters the trace at this edge is the model's choice,
notes/assumptions/31.md; R228 gives the registers only. -/
def Obligations.TxFaultAbortsTheFrame : Prop :=
  ∀ (start : Bool) (s : State),
    exec (.txFault start) s = .next { s with
      ptx := { s.ptx with busy := false, dout := false, done := true, err := true }
      trace := s.trace ++ [.frame s.ptx.word .fault] }

/-- R106: each of the eight values of PTXCTL selects exactly the operation of its row, and it is the one PTX runs. -/
def Obligations.PtxctlSelectsOneOperation : Prop :=
  ∀ (s : State) (fault : Bool),
    decode .ptxctl (s.ptx.busy.toNat * 4 + s.fsm.startR.toNat * 2 + fault.toNat) = .op (ptxSelected s fault) ∧
    (s.ptx.busy = false → s.fsm.startR = false → ptxSelected s fault = .txIdle fault) ∧
    (s.ptx.busy = false → s.fsm.startR = true → ptxSelected s fault = .txStart fault) ∧
    (s.ptx.busy = true → fault = false → ptxSelected s fault = .txRun s.fsm.startR) ∧
    (s.ptx.busy = true → fault = true → ptxSelected s fault = .txFault s.fsm.startR)

/-- R229, the end of a frame: started at E0 on an idle PTX with no fault, the frame is reported done at E0 + D, the line
of stimulus `TX w` is over, and the next edge of PTX takes the report back. The first step is the edge E0. That the line
drives PTX alone, with no fault and no reset, is the model's choice, notes/assumptions/7.md. -/
def Obligations.FrameCompletesOnTime : Prop :=
  ∀ (s : State) (w : ColorWord) (rest : List Line), cfgLegal s.cfg = true → s.ptx.busy = false →
    ∃ t, Host.Core.run core (frameTicks s.cfg w + 1) { s with stim := .tx w :: rest } = .next t ∧
      t.ptx.done = true ∧ t.ptx.err = false ∧ t.ptx.busy = false ∧ t.ptx.dout = false ∧ t.ptx.word = w ∧
      t.trace = s.trace ++ [.frame w .ok] ∧ t.stim = rest ∧
      ∀ fault, ∃ u, exec (ptxSelected t fault) t = .next u ∧ u.ptx.done = false

/-- R229, the line during a frame: high for TH_i and low for TL_i, slot after slot, then low for RESET_TICKS; busy
throughout, and no report before the end. That the line of stimulus drives PTX alone, with no fault and no reset, is the
model's choice, notes/assumptions/7.md. -/
def Obligations.LineFollowsTheFrame : Prop :=
  ∀ (s : State) (w : ColorWord) (rest : List Line) (k : Nat), cfgLegal s.cfg = true → s.ptx.busy = false →
    k < frameTicks s.cfg w →
    ∃ t, Host.Core.run core (k + 1) { s with stim := .tx w :: rest } = .next t ∧
      t.ptx.busy = true ∧ t.ptx.done = false ∧ (frameLevels s.cfg w)[k]? = some t.ptx.dout

/-! ### The poll level -/

/-- R281: the steps of a press, with each of its three errors. A press shows and names the scene's value before it
advances. -/
def Obligations.PressShowsSendsAndAdvances : Prop :=
  ∀ s : State, s.fsm.phase ≠ .fatal →
    let n := s.fsm.scene
    let e := sceneEntry s.cfg n
    let o := cvt e.h e.s e.v
    let W := packWord o.r o.g o.b
    let C := fun r => Event.cmd n (BitVec.ofNat 8 e.sceneId) (BitVec.ofNat 7 e.dimming) r
    ∃ t, exec .pollPress s = .next t ∧
      (360 < e.h ∨ 100 < e.s ∨ 100 < e.v →
        pstate t = ⟨n, s.fsm.dstate, true, .invalidColorInput⟩ ∧ t.trace = s.trace ++ [.fatal .invalidColorInput]) ∧
      (e.h ≤ 360 → e.s ≤ 100 → e.v ≤ 100 → s.ans.txr = .fault →
        pstate t = ⟨n, s.fsm.dstate, true, .peripheralError⟩ ∧
        t.trace = s.trace ++ [.frame W .fault, .fatal .peripheralError]) ∧
      (e.h ≤ 360 → e.s ≤ 100 → e.v ≤ 100 → s.ans = ⟨.ok, .err⟩ →
        pstate t = ⟨n, s.fsm.dstate, true, .transportError⟩ ∧
        t.trace = s.trace ++ [.frame W .ok, C .err, .fatal .transportError]) ∧
      (e.h ≤ 360 → e.s ≤ 100 → e.v ≤ 100 → s.ans = ⟨.ok, .ok⟩ →
        pstate t = ⟨n ^^^ 1#1, .handled, false, s.fsm.errCode⟩ ∧ t.trace = s.trace ++ [.frame W .ok, C .ok])

/-- R284. -/
def Obligations.HoldChangesNothing : Prop :=
  ∀ s : State, ∃ t, exec .pollHold s = .next t ∧ pstate t = pstate s ∧ t.trace = s.trace

/-- R285: in LEVEL mode, or after a handled press, a release sends the off frame, and re-arms if it did not fault; in EDGE
mode a release while IDLE does nothing. -/
def Obligations.ReleaseTurnsOffAndRearms : Prop :=
  ∀ (d : DState) (s : State), ∃ t, exec (.pollRelease d) s = .next t ∧
    (s.cfg.releaseMode = .level ∨ s.fsm.dstate = .handled → s.ans.txr = .ok →
      pstate t = { pstate s with dstate := .idle } ∧ t.trace = s.trace ++ [.frame 0x000000#24 .ok]) ∧
    (s.cfg.releaseMode = .level ∨ s.fsm.dstate = .handled → s.ans.txr = .fault →
      pstate t = ⟨s.fsm.scene, s.fsm.dstate, true, .peripheralError⟩ ∧
      t.trace = s.trace ++ [.frame 0x000000#24 .fault, .fatal .peripheralError]) ∧
    (s.cfg.releaseMode = .edge → s.fsm.dstate = .idle → pstate t = pstate s ∧ t.trace = s.trace)

/-- R287 says that PState and the events stay. That the whole state stays, the synchronizer and PTX included, is the
model's deduction, notes/assumptions/27.md. -/
def Obligations.DeadChangesNothing : Prop :=
  ∀ (lvl : Bool) (d : DState) (s : State), exec (.pollDead lvl d) s = .next s

/-- The frame of the poll operations. The registers outside PState are the model's reading, notes/assumptions/9.md: a
cycle without a frame leaves PTX's word and position and `word_r`; `start_r` is 0; PTX is not put to work. That the units'
wires stay is the model's choice, notes/assumptions/34.md. -/
def Obligations.PollOperationsLeaveTheRest : Prop :=
  ∀ (i : Instr) (s : State), (i = .pollPress ∨ i = .pollHold ∨ ∃ d, i = .pollRelease d) →
    ∃ t, exec i s = .next t ∧
      t.cfg = s.cfg ∧ t.pins = s.pins ∧ t.ans = s.ans ∧ t.units = s.units ∧ t.cuts = s.cuts ∧ t.stim = s.stim ∧
      (i ≠ .pollPress → t.fsm.scene = s.fsm.scene) ∧
      t.fsm.startR = false ∧ t.fsm.sync.length = s.cfg.syncStages ∧
      t.ptx.dout = false ∧ t.ptx.done = false ∧ t.ptx.err = false ∧
      (s.ptx.busy = false → t.ptx.busy = false) ∧
      (t.fsm.phase = s.fsm.phase ∨ t.fsm.phase = .fatal) ∧
      ((∀ e ∈ t.trace.drop s.trace.length, isFrame e = false) →
        t.fsm.wordR = s.fsm.wordR ∧ t.ptx.word = s.ptx.word ∧ t.ptx.slot = s.ptx.slot ∧
        t.ptx.phase = s.ptx.phase ∧ t.ptx.cnt = s.ptx.cnt ∧ t.ptx.busy = s.ptx.busy)

/-- R107: each of the eight values of POLLCTL selects exactly the operation of its row. -/
def Obligations.PollctlSelectsOneOperation : Prop :=
  ∀ (s : State) (lvl : Bool),
    decode .pollctl ((fatalFlag s).toNat * 4 + lvl.toNat * 2 + (dstateBit s.fsm.dstate).toNat) =
      .op (pollSelected s lvl) ∧
    (s.fsm.phase ≠ .fatal → lvl = false → s.fsm.dstate = .idle → pollSelected s lvl = .pollPress) ∧
    (s.fsm.phase ≠ .fatal → lvl = false → s.fsm.dstate = .handled → pollSelected s lvl = .pollHold) ∧
    (s.fsm.phase ≠ .fatal → lvl = true → pollSelected s lvl = .pollRelease s.fsm.dstate) ∧
    (s.fsm.phase = .fatal → pollSelected s lvl = .pollDead lvl s.fsm.dstate)

/-- R298. Debounce: N = n + 1 held-low samples of an unhandled press give one press and then holds, so one frame and one
command, whatever N is. Toggle: two qualifying presses, each held and released for any number of samples, return `scene`
to its starting value with two commands. -/
def Obligations.DebounceAndToggle : Prop :=
  ∀ s : State, s.fsm.phase = .sample → s.fsm.dstate = .idle → cfgLegal s.cfg = true →
    (∀ n : Nat, ∃ t, pollRun (List.replicate (n + 1) false) s = .next t ∧
      pollSelected s false = .pollPress ∧ pollSelected t false = .pollHold ∧
      pstate t = ⟨s.fsm.scene ^^^ 1#1, .handled, false, s.fsm.errCode⟩ ∧
      t.trace = s.trace ++ [.frame (feedbackWord s) .ok, .cmd s.fsm.scene (sceneIdField s) (dimmingField s) .ok]) ∧
    (∀ a b c d : Nat, ∃ t, pollRun (List.replicate (a + 1) false ++ List.replicate (b + 1) true ++
        List.replicate (c + 1) false ++ List.replicate (d + 1) true) s = .next t ∧
      pstate t = pstate s ∧ t.trace.countP isCmd = s.trace.countP isCmd + 2)

/-! ### Reset -/

/-- R380: every register takes its reset value, no event, and nothing else changes but the record of a cut frame, which
R381 asks a model to keep. -/
def Obligations.RstResetsEveryRegister : Prop :=
  ∀ s : State, ∃ t, exec .rst s = .next t ∧
    t = { s with
      fsm := {
        scene := 0#1, phase := .sample, dstate := .idle, sleepCnt := 0, errCode := .none, startR := false,
        wordR := 0x000000#24, sync := List.replicate s.cfg.syncStages true }
      ptx := {
        busy := false, phase := .hi, slot := 0, cnt := 0, word := 0x000000#24, dout := false, done := false,
        err := false }
      cuts := t.cuts } ∧
    (s.ptx.busy = false → t.cuts = s.cuts) ∧ (s.ptx.busy = true → t.cuts = s.cuts ++ [s.ptx.word])

/-- R108: when `rst_i` is 1 at an edge, that edge performs RST, and no PTXCTL or POLLCTL operation runs at it. -/
def Obligations.ResetOverridesTheEdge : Prop :=
  ∀ (s : State) (p : Pins) (rest : List Line), cfgLegal s.cfg = true → s.stim = .edge p :: rest → p.rst = true →
    ∃ u t, exec .rst { s with stim := rest, pins := p } = .next u ∧ step s = .next t ∧
      t.fsm = u.fsm ∧ t.ptx = u.ptx ∧ t.trace = u.trace ∧ t.cfg = u.cfg ∧ t.units = u.units

/-- R115: the line `RST` holds `rst_i` = 1 for one edge, and then 0: no later step drives it to 1 but one whose line gives
the pins, or another line `RST`. That the 0 lasts so long is the model's reading, notes/assumptions/33.md. -/
def Obligations.ResetLineHoldsForOneEdge : Prop :=
  (∀ (s : State) (rest : List Line), cfgLegal s.cfg = true → s.stim = .rst :: rest →
    ∃ u t, exec .rst s = .next u ∧ step s = .next t ∧ t.fsm = u.fsm ∧ t.ptx = u.ptx ∧ t.trace = u.trace ∧
      t.cuts = u.cuts ∧ t.stim = rest ∧ t.rstLow = true ∧ t.pins.rst = false) ∧
  (∀ s t : State, s.rstLow = true → s.pins.rst = false → (∀ p rest, s.stim ≠ .edge p :: rest) →
    step s = .next t → t.rstLow = true ∧ t.pins.rst = false)

/-- R51: the reset value of every register, for every configuration; the core's reset state is of this form. -/
def Obligations.ResetValues : Prop :=
  core.reset = State.resetWith State.reset.cfg ∧
  ∀ c : Cfg,
    (State.resetWith c).cfg = c ∧
    (State.resetWith c).fsm = {
      scene := 0#1, phase := .sample, dstate := .idle, sleepCnt := 0, errCode := .none, startR := false,
      wordR := 0x000000#24, sync := List.replicate c.syncStages true } ∧
    (State.resetWith c).ptx = {
      busy := false, phase := .hi, slot := 0, cnt := 0, word := 0x000000#24, dout := false, done := false,
      err := false }

/-! ### The clock level -/

/-- R289: the SAMPLE edge. PTX runs its own operation at the same edge.
Where PTX ends a frame at the same edge, its event enters the trace before the FSM's: the model's choice in states no run
reaches, notes/assumptions/14.md. -/
def Obligations.SampleEdgeDecides : Prop :=
  ∀ (s : State) (lvl : Bool), s.pins.rst = false → lvl? s = some lvl → s.fsm.phase = .sample →
    ∃ p t, exec (ptxSelected s s.pins.txFault) s = .next p ∧ clockEdge s = .next t ∧ t.ptx = p.ptx ∧
      (lvl = false → s.fsm.dstate = .idle → (entryColor s).invalid = true →
        t.fsm = { edgeBase s with phase := .fatal, errCode := .invalidColorInput } ∧
        t.trace = p.trace ++ [.fatal .invalidColorInput]) ∧
      (lvl = false → s.fsm.dstate = .idle → (entryColor s).invalid = false →
        t.fsm = { edgeBase s with wordR := feedbackWord s, startR := true, phase := .showP } ∧ t.trace = p.trace) ∧
      (lvl = false → s.fsm.dstate = .handled →
        t.fsm = { edgeBase s with sleepCnt := 0, phase := .sleep } ∧ t.trace = p.trace) ∧
      (lvl = true → s.cfg.releaseMode = .level ∨ s.fsm.dstate = .handled →
        t.fsm = { edgeBase s with wordR := 0x000000#24, startR := true, phase := .showR } ∧ t.trace = p.trace) ∧
      (lvl = true → s.cfg.releaseMode = .edge → s.fsm.dstate = .idle →
        t.fsm = { edgeBase s with sleepCnt := 0, phase := .sleep } ∧ t.trace = p.trace)

/-- R290: the SHOW_P edge.
Where PTX ends a frame at the same edge, its event enters the trace before the FSM's: the model's choice in states no run
reaches, notes/assumptions/14.md. -/
def Obligations.ShowPEdgeWaitsForDone : Prop :=
  ∀ (s : State) (lvl : Bool), s.pins.rst = false → lvl? s = some lvl → s.fsm.phase = .showP →
    ∃ p t, exec (ptxSelected s s.pins.txFault) s = .next p ∧ clockEdge s = .next t ∧ t.ptx = p.ptx ∧
      (s.ptx.done = false → t.fsm = edgeBase s ∧ t.trace = p.trace) ∧
      (s.ptx.done = true → s.ptx.err = true →
        t.fsm = { edgeBase s with phase := .fatal, errCode := .peripheralError } ∧
        t.trace = p.trace ++ [.fatal .peripheralError]) ∧
      (s.ptx.done = true → s.ptx.err = false → t.fsm = { edgeBase s with phase := .send } ∧ t.trace = p.trace)

/-- R291: the SEND edge, with the command offered throughout (R46); `cmd_err_i` without `cmd_ack_i` is ignored (R300).
Where PTX ends a frame at the same edge, its event enters the trace before the FSM's: the model's choice in states no run
reaches, notes/assumptions/14.md. -/
def Obligations.SendEdgeTakesTheAnswer : Prop :=
  ∀ (s : State) (lvl : Bool), s.pins.rst = false → lvl? s = some lvl → s.fsm.phase = .send →
    (outputs s).cmdValid = true ∧
    ∃ p t, exec (ptxSelected s s.pins.txFault) s = .next p ∧ clockEdge s = .next t ∧ t.ptx = p.ptx ∧
      (s.pins.cmdAck = false → t.fsm = edgeBase s ∧ t.trace = p.trace) ∧
      (s.pins.cmdAck = true → s.pins.cmdErr = true →
        t.fsm = { edgeBase s with phase := .fatal, errCode := .transportError } ∧
        t.trace = p.trace ++
          [.cmd s.fsm.scene (sceneIdField s) (dimmingField s) .err, .fatal .transportError]) ∧
      (s.pins.cmdAck = true → s.pins.cmdErr = false →
        t.fsm = { edgeBase s with
          scene := s.fsm.scene ^^^ 1#1, dstate := .handled, sleepCnt := 0, phase := .sleep } ∧
        t.trace = p.trace ++ [.cmd s.fsm.scene (sceneIdField s) (dimmingField s) .ok])

/-- R293: the SHOW_R edge.
Where PTX ends a frame at the same edge, its event enters the trace before the FSM's: the model's choice in states no run
reaches, notes/assumptions/14.md. -/
def Obligations.ShowREdgeWaitsForDone : Prop :=
  ∀ (s : State) (lvl : Bool), s.pins.rst = false → lvl? s = some lvl → s.fsm.phase = .showR →
    ∃ p t, exec (ptxSelected s s.pins.txFault) s = .next p ∧ clockEdge s = .next t ∧ t.ptx = p.ptx ∧
      (s.ptx.done = false → t.fsm = edgeBase s ∧ t.trace = p.trace) ∧
      (s.ptx.done = true → s.ptx.err = true →
        t.fsm = { edgeBase s with phase := .fatal, errCode := .peripheralError } ∧
        t.trace = p.trace ++ [.fatal .peripheralError]) ∧
      (s.ptx.done = true → s.ptx.err = false →
        t.fsm = { edgeBase s with dstate := .idle, sleepCnt := 0, phase := .sleep } ∧ t.trace = p.trace)

/-- R294: the SLEEP edge. -/
def Obligations.SleepEdgeCounts : Prop :=
  ∀ (s : State) (lvl : Bool), s.pins.rst = false → lvl? s = some lvl → s.fsm.phase = .sleep →
    ∃ p t, exec (ptxSelected s s.pins.txFault) s = .next p ∧ clockEdge s = .next t ∧ t.ptx = p.ptx ∧
      t.trace = p.trace ∧
      t.fsm = if (s.fsm.sleepCnt : ℤ) = (pollTicks s.cfg : ℤ) - 1 then { edgeBase s with phase := .sample }
        else { edgeBase s with sleepCnt := s.fsm.sleepCnt + 1 }

/-- R295: the FATAL edge. The FSM keeps its registers and the synchronizer shifts; no command is offered and no frame is
requested; an idle PTX stays idle with the line low. -/
def Obligations.FatalEdgeKeepsTheRegisters : Prop :=
  ∀ (s : State) (lvl : Bool), s.pins.rst = false → lvl? s = some lvl → s.fsm.phase = .fatal →
    ∃ p t, exec (ptxSelected s s.pins.txFault) s = .next p ∧ clockEdge s = .next t ∧ t.ptx = p.ptx ∧
      t.trace = p.trace ∧ t.fsm = edgeBase s ∧ t.fsm.startR = false ∧ (outputs t).cmdValid = false ∧
      (PtxFree s → t.ptx.busy = false ∧ t.ptx.dout = false)

/-- R40: the sampled level is `btn_i` as it was SYNC_STAGES edges earlier. -/
def Obligations.SynchronizerDelaysTheButton : Prop :=
  ∀ (s : State) (ps : List Pins), cfgLegal s.cfg = true → s.fsm.sync.length = s.cfg.syncStages →
    ps.length = s.cfg.syncStages → (∀ p ∈ ps, p.rst = false) →
    ∃ t, Host.Core.run core ps.length (withEdges ps s) = .next t ∧ lvl? t = ps.head?.map (fun p => p.btn)

/-- R40, R288: every edge but a reset's shifts the synchronizer, an edge of PTX alone (notes/assumptions/7.md) included, and
a reset sets every stage to 1. -/
def Obligations.EveryEdgeShiftsTheSynchronizer : Prop :=
  ∀ s t : State, cfgLegal s.cfg = true → s.fsm.sync.length = s.cfg.syncStages →
    ((s.pins.rst = false ∧ clockEdge s = .next t) ∨ (∃ start fault, ptxOnlyEdge start fault s = .next t) →
      t.fsm.sync[0]? = some s.pins.btn ∧
      ∀ k, 0 < k → k < s.cfg.syncStages → t.fsm.sync[k]? = s.fsm.sync[k - 1]?) ∧
    (exec .rst s = .next t → ∀ k, k < s.cfg.syncStages → t.fsm.sync[k]? = some true)

/-- R292, R305: in every state where FSM and PTX are in step, a start request finds PTX idle, so it is a TX.START. -/
def Obligations.StartRequestsAreNeverIgnored : Prop :=
  ∀ (s : State) (fault : Bool), Handshake s → s.fsm.startR = true → ptxSelected s fault = .txStart fault

/-- R306, first case: a hold, or an EDGE release with nothing to do, takes POLL_TICKS + 1 edges from one sample edge to
the next, all of them but the last in SLEEP. -/
def Obligations.QuietCycleLength : Prop :=
  ∀ (s : State) (lvl : Bool) (ps : List Pins), cfgLegal s.cfg = true → s.fsm.sync.length = s.cfg.syncStages →
    s.fsm.phase = .sample → lvl? s = some lvl →
    (lvl = false ∧ s.fsm.dstate = .handled ∨
      lvl = true ∧ s.cfg.releaseMode = .edge ∧ s.fsm.dstate = .idle) →
    ps.length = pollTicks s.cfg + 1 → (∀ p ∈ ps, p.rst = false) →
    (∃ t, Host.Core.run core ps.length (withEdges ps s) = .next t ∧ t.fsm.phase = .sample) ∧
    ∀ k, 0 < k → k < ps.length →
      ∃ t, Host.Core.run core k (withEdges ps s) = .next t ∧ t.fsm.phase = .sleep

/-- R297: a clock-level poll cycle, from a sample edge to the next edge at which the FSM is in SAMPLE or FATAL, has the
PState and the events of one poll-level step with the level read at its sample edge and some outcomes. -/
def Obligations.ClockCycleRefinesPollStep : Prop :=
  ∀ (s t : State) (ps : List Pins), Handshake s → s.fsm.phase = .sample → ps ≠ [] → (∀ p ∈ ps, p.rst = false) →
    (∀ k u, 0 < k → k < ps.length → Host.Core.run core k (withEdges ps s) = .next u → atPollPoint u = false) →
    Host.Core.run core ps.length (withEdges ps s) = .next t → atPollPoint t = true →
    ∃ lvl txr cmdr u, lvl? s = some lvl ∧ pollStep lvl txr cmdr s = .next u ∧
      pstate t = pstate u ∧ t.trace = u.trace

/-! ### Invariants and whole-machine rules -/

/-- R37, R38, R40, R42, R43, R45: every step keeps the registers in their ranges and relations. -/
def Obligations.StepKeepsRegisterRanges : Prop :=
  ∀ s t : State, RegsOk s → step s = .next t → RegsOk t

/-- R305: every step that drives the whole block keeps FSM and PTX in step. -/
def Obligations.StepKeepsHandshake : Prop :=
  ∀ s t : State, Handshake s → s.stim.all wholeBlock = true → step s = .next t →
    Handshake t ∧ t.stim.all wholeBlock = true

/-- Both invariants hold right after reset, under every legal configuration. -/
def Obligations.ResetMeetsTheInvariants : Prop :=
  ∀ c : Cfg, cfgLegal c = true → RegsOk (State.resetWith c) ∧ Handshake (State.resetWith c) ∧
    (State.resetWith c).stim.all wholeBlock = true

/-- R30: no step changes the configuration. -/
def Obligations.StepKeepsConfiguration : Prop :=
  ∀ s t : State, step s = .next t → t.cfg = s.cfg

/-- R346: FATAL is absorbing; only a reset leaves it. The error code, `scene` and `dstate` keep their values, and with PTX
idle, as it is when the FSM drives it, no frame starts, nothing is sent and the line stays low. -/
def Obligations.FatalIsAbsorbing : Prop :=
  ∀ s t : State, s.fsm.phase = .fatal → resetNow s = false → step s = .next t →
    t.fsm.phase = .fatal ∧ t.fsm.errCode = s.fsm.errCode ∧ t.fsm.scene = s.fsm.scene ∧
      t.fsm.dstate = s.fsm.dstate ∧
      (PtxFree s → s.ptx.dout = false → s.stim.all wholeBlock = true →
        PtxFree t ∧ t.ptx.dout = false ∧ t.trace = s.trace)

/-- R34, R283: but for a reset, only a press that raised no error changes `scene`, and then it toggles and `dstate`
becomes HANDLED: at the edge in SEND that acknowledges the command without an error, or in the poll-level step of an
unhandled press with both outcomes ok. -/
def Obligations.OnlyAPressChangesTheScene : Prop :=
  ∀ s t : State, resetNow s = false → step s = .next t → t.fsm.scene ≠ s.fsm.scene →
    t.fsm.scene = s.fsm.scene ^^^ 1#1 ∧ t.fsm.dstate = .handled ∧ t.fsm.phase ≠ .fatal ∧
    ((s.fsm.phase = .send ∧ (pinsNow s).cmdAck = true ∧ (pinsNow s).cmdErr = false) ∨
      (s.fsm.phase = .sample ∧ s.fsm.dstate = .idle ∧ ∃ rest, s.stim = .poll false .ok .ok :: rest))

/-- R46, R110, R109: the outputs as functions of the registers, the four numbers of ERR2, and the layout of CMD16. -/
def Obligations.OutputsFollowTheRegisters : Prop :=
  ∀ s : State,
    outputs s = {
      ledDout := s.ptx.dout
      txBusy := s.ptx.busy
      cmdValid := decide (s.fsm.phase = .send)
      cmdScene := s.fsm.scene
      cmdSceneId := BitVec.ofNat 8 (sceneEntry s.cfg s.fsm.scene).sceneId
      cmdDimming := BitVec.ofNat 7 (sceneEntry s.cfg s.fsm.scene).dimming
      fatal := decide (s.fsm.phase = .fatal)
      errCode :=
        match s.fsm.errCode with
        | .none => 0#2
        | .invalidColorInput => 1#2
        | .peripheralError => 2#2
        | .transportError => 3#2
      scene := s.fsm.scene
      dstate := decide (s.fsm.dstate = .handled) } ∧
    (cmd16 s).toNat = (outputs s).cmdScene.toNat * 2 ^ 15 + (outputs s).cmdSceneId.toNat * 2 ^ 7 +
      (outputs s).cmdDimming.toNat

/-- R35, R36, R42: the numbers of the three enumerated registers. -/
def Obligations.EnumerationCodes : Prop :=
  phaseBits .sample = 0#3 ∧ phaseBits .showP = 1#3 ∧ phaseBits .send = 2#3 ∧ phaseBits .showR = 3#3 ∧
  phaseBits .sleep = 4#3 ∧ phaseBits .fatal = 5#3 ∧
  dstateBit .idle = false ∧ dstateBit .handled = true ∧
  ptxPhaseBits .hi = 0#2 ∧ ptxPhaseBits .lo = 1#2 ∧ ptxPhaseBits .gap = 2#2

/-- R345 (end), R300: inputs nobody listens to change nothing: the sender's answers outside SEND, its error flag without an
acknowledge, and a fault while PTX is idle. -/
def Obligations.UnheardInputsChangeNothing : Prop :=
  ∀ (s : State) (a e : Bool),
    (s.fsm.phase ≠ .send → clockEdge { s with pins := { s.pins with cmdAck := a, cmdErr := e } } = clockEdge s) ∧
    (s.pins.cmdAck = false → clockEdge { s with pins := { s.pins with cmdErr := e } } = clockEdge s) ∧
    (s.ptx.busy = false → clockEdge { s with pins := { s.pins with txFault := a } } = clockEdge s)

/-- R303, R109: the command words and the payload texts of the default table's two commands. -/
def Obligations.DefaultCommands : Prop :=
  cmd16 State.reset = 0x0664#16 ∧
  cmd16 { State.reset with fsm := { State.reset.fsm with scene := 1#1 } } = 0x830A#16 ∧
  datagramText 12#8 100#7 = [123] ++ asciiText "\"method\":\"setPilot\",\"params\":" ++ [123] ++
    asciiText "\"sceneId\":12,\"dimming\":100" ++ [125, 125] ∧
  datagramText 6#8 10#7 = [123] ++ asciiText "\"method\":\"setPilot\",\"params\":" ++ [123] ++
    asciiText "\"sceneId\":6,\"dimming\":10" ++ [125, 125]

/-! ### A step, decoding, encoding -/

/-- A step runs the operation that is decoded: an operand word's (R112), POLLCTL's (R107, R280), PTXCTL's on an edge of
PTX alone and on an edge of the whole block (R106, R288), and RST's (R108). What a step adds is said in the model's own
words: the line leaves the queue, the pins become free after an edge, the synchronizer shifts, the FSM's rule runs beside
PTX on an edge of the block, and `rstLow` remembers who drove `rst_i` last (notes/assumptions/33.md). Two clauses are the
model's choice: that an edge of PTX alone holds the FSM off and runs no RST whatever `pins.rst` is
(notes/assumptions/7.md), and that a poll line is a whole cycle without a reset whatever `pins.rst` is
(notes/assumptions/17.md). -/
def Obligations.StepRunsTheDecodedOperation : Prop :=
  ∀ (s : State) (rest : List Line), cfgLegal s.cfg = true →
    (∀ f w i, s.stim = .operand f w :: rest → decode (unitFormat f) w = .op i →
      step s = exec i { s with stim := rest }) ∧
    (∀ lvl txr cmdr, s.stim = .poll lvl txr cmdr :: rest → atPollPoint s = true → s.ptx.busy = false →
      step s = mapNext afterEdge (exec (pollSelected s lvl) { s with stim := rest, ans := ⟨txr, cmdr⟩ })) ∧
    (∀ start fault, s.stim = .ptxEdge start fault :: rest →
      step s = mapNext (fun q => afterEdge (shiftSync s q)) (exec (ptxctlOp s.ptx.busy start.isSome fault)
        { s with stim := rest, fsm := { s.fsm with wordR := start.getD s.fsm.wordR } })) ∧
    (∀ p lvl, s.stim = .edge p :: rest → p.rst = false → lvl? s = some lvl →
      step s = mapNext (fun q => afterEdge (fsmEdge lvl { s with stim := rest, pins := p }
          (shiftSync { s with stim := rest, pins := p } q)))
        (exec (ptxSelected s p.txFault) { s with stim := rest, pins := p, rstLow := false })) ∧
    (s.stim = .rst :: rest → step s = mapNext afterEdge (exec .rst { s with stim := rest, rstLow := true })) ∧
    (s.stim = [] → step s = clockEdge s)

/-- R101 to R108: decoding the encoding of every well-formed operation gives it back. -/
def Obligations.DecodeOfEncodeIsTheOperation : Prop :=
  ∀ i : Instr, i.wf = true → decode (encode i).1 (encode i).2 = .op i

/-- R112: a word of a format that is an operation is that operation's one encoding. -/
def Obligations.EncodeOfDecodeIsTheWord : Prop :=
  ∀ (f : Format) (w : Nat) (i : Instr), decode f w = .op i → encode i = (f, w)

/-- Words written out in the spec (R101, R103, R106, R107, 95_test_vectors.md V2.38, V2.41, V2.61, V2.70 to V2.73). The
last clause, a word of 24 bits in the format HSV23, is no word of the spec: that it is rejected is the model's deduction,
notes/assumptions/26.md. -/
def Obligations.SpecWordsDecode : Prop :=
  decode .hsv23 0x5A3264 = .op (.cvt 360#9 100#7 100#7) ∧ decode .hsv23 0x5A4000 = .op (.cvt 361#9 0#7 0#7) ∧
  decode .rgb24 0xFF0000 = .op (.pack 255#8 0#8 0#8) ∧ decode .frame24 0x330000 = .op (.enc 0x330000#24) ∧
  decode .sym 1 = .op .sym1 ∧ decode .sym 0 = .op .sym0 ∧
  decode .ptxctl 0b011 = .op (.txStart true) ∧ decode .ptxctl 0b101 = .op (.txFault false) ∧
  decode .pollctl 0b000 = .op .pollPress ∧ decode .pollctl 0b001 = .op .pollHold ∧
  decode .pollctl 0b011 = .op (.pollRelease .handled) ∧ decode .pollctl 0b100 = .op (.pollDead false .idle) ∧
  decode .rstctl 1 = .op .rst ∧ decode .hsv23 0x800000 = .rejected .tooWide


/-- R112: every HSV23 word selects CVT, every RGB24 word PACK, every W ENC; each value of PTXCTL and POLLCTL selects one
operation of its table; and `rst_i` = 1 overrides both at an edge. -/
def Obligations.DecodingIsTotal : Prop :=
  (∀ w, w < 2 ^ 23 → ∃ h sat v, decode .hsv23 w = .op (.cvt h sat v)) ∧
  (∀ w, w < 2 ^ 24 → ∃ r g b, decode .rgb24 w = .op (.pack r g b)) ∧
  (∀ w, w < 2 ^ 24 → decode .frame24 w = .op (.enc (BitVec.ofNat 24 w))) ∧
  (∀ w, w < 2 ^ 3 → ∃ busy start fault, w = threeBits busy start fault ∧
    decode .ptxctl w = .op (ptxctlOp busy start fault)) ∧
  (∀ w, w < 2 ^ 3 → ∃ dead lvl d, w = threeBits dead lvl (dstateBit d) ∧
    decode .pollctl w = .op (pollctlOp dead lvl d)) ∧
  (∀ s : State, s.pins.rst = true → ∃ u t, exec .rst s = .next u ∧ clockEdge s = .next t ∧
    t.fsm = u.fsm ∧ t.ptx = u.ptx ∧ t.trace = u.trace)
end

