-- ==== Sys2Proof/Laws/Convert.lean ====
section
/-! SUPPORT. The small lemmas of CVT, PACK, the frame store and decoding. -/

namespace Sys2Proof.Machine

/-- The domain check, as a proposition (40_color_convert.md R141). -/
@[simp] theorem outOfDomain_eq_true {h s v : Nat} : outOfDomain h s v = true ↔ 360 < h ∨ 100 < s ∨ 100 < v :=
  decide_eq_true_iff

@[simp] theorem outOfDomain_eq_false {h s v : Nat} : outOfDomain h s v = false ↔ h ≤ 360 ∧ s ≤ 100 ∧ v ≤ 100 := by
  rw [outOfDomain, decide_eq_false_iff_not]
  omega

/-- CVT raises `invalid` exactly out of domain (40_color_convert.md R141). -/
@[simp] theorem cvt_invalid (h s v : Nat) : (cvt h s v).invalid = outOfDomain h s v := by
  unfold cvt
  cases outOfDomain h s v <;> rfl

/-- CVT out of domain (40_color_convert.md R142). -/
theorem cvt_of_outOfDomain {h s v : Nat} (hd : outOfDomain h s v = true) : cvt h s v = ⟨0#8, 0#8, 0#8, true⟩ := by
  unfold cvt
  rw [hd]
  rfl

/-- CVT of a legal triple (40_color_convert.md R140). -/
theorem cvt_of_legal {h s v : Nat} (hd : outOfDomain h s v = false) :
    cvt h s v = ⟨BitVec.ofNat 8 (channels h s v).1, BitVec.ofNat 8 (channels h s v).2.1,
      BitVec.ofNat 8 (channels h s v).2.2, false⟩ := by
  unfold cvt
  rw [hd]
  rfl

/-- The chroma factor is at most 6000 (40_color_convert.md R150). -/
theorem chromaFactor_le {s f : Nat} (hf : f ≤ 60) :
    s * f + 6000 - 60 * s ≤ 6000 := by
  have : s * f ≤ s * 60 := Nat.mul_le_mul_left s hf
  omega

/-- `F` lies within 0 and 60 for a legal hue (40_color_convert.md R140). -/
theorem fold_le {h : Nat} (hh : h ≤ 360) : fold h ≤ 60 := by
  unfold fold sector
  split <;> omega

/-- Reading a slot that was written (20_memory.md R70). -/
theorem frameRead_frameWrite_self {f : Frame} (hf : f.length = 24) (i : Fin 24) (x : Sym) :
    frameRead (frameWrite f i x) i = some x := by
  simp [frameRead, frameWrite, hf]

/-- Writing a slot leaves every other slot alone (20_memory.md R70). -/
theorem frameRead_frameWrite_ne {f : Frame} {i j : Fin 24} (h : j ≠ i) (x : Sym) :
    frameRead (frameWrite f i x) j = frameRead f j := by
  have : i.val ≠ j.val := fun e => h (Fin.ext e.symm)
  simp [frameRead, frameWrite, this]

@[simp] theorem frameWrite_length (f : Frame) (i : Fin 24) (x : Sym) : (frameWrite f i x).length = f.length :=
  List.length_set ..

@[simp] theorem encLoop_length (w : ColorWord) : ∀ (p : Nat) (f : Frame), (encLoop w p f).length = f.length
  | 0, _ => rfl
  | p + 1, f => by rw [encLoop, encLoop_length w p]; simp

/-- Every frame ENC makes has 24 slots (30_encoding.md R105). -/
@[simp] theorem encFrame_length (w : ColorWord) : (encFrame w).length = 24 := by
  simp [encFrame, offFrame]

end Sys2Proof.Machine

namespace Sys2Proof

/-- A word that fits its format decodes by its format's table (30_encoding.md R112). -/
theorem decode_of_lt {f : Format} {w : Nat} (h : w < 2 ^ formatWidth f) : decode f w = decodeFitting f w := if_pos h

/-- A word wider than its format is rejected by name. -/
theorem decode_of_ge {f : Format} {w : Nat} (h : 2 ^ formatWidth f ≤ w) : decode f w = .rejected .tooWide :=
  if_neg (Nat.not_lt.mpr h)

end Sys2Proof
end

