-- ==== Sys2Proof/Laws/State.lean ====
section
/-! SUPPORT. One lemma per field per shared operation, true by unfolding and tagged simp, so that no later proof unfolds a
record update. -/

namespace Sys2Proof.Machine

@[simp] theorem emit_cfg (e : Event) (s : State) : (emit e s).cfg = s.cfg := rfl
@[simp] theorem emit_fsm (e : Event) (s : State) : (emit e s).fsm = s.fsm := rfl
@[simp] theorem emit_ptx (e : Event) (s : State) : (emit e s).ptx = s.ptx := rfl
@[simp] theorem emit_pins (e : Event) (s : State) : (emit e s).pins = s.pins := rfl
@[simp] theorem emit_ans (e : Event) (s : State) : (emit e s).ans = s.ans := rfl
@[simp] theorem emit_units (e : Event) (s : State) : (emit e s).units = s.units := rfl
@[simp] theorem emit_trace (e : Event) (s : State) : (emit e s).trace = s.trace ++ [e] := rfl
@[simp] theorem emit_cuts (e : Event) (s : State) : (emit e s).cuts = s.cuts := rfl
@[simp] theorem emit_stim (e : Event) (s : State) : (emit e s).stim = s.stim := rfl
@[simp] theorem emit_tick (e : Event) (s : State) : (emit e s).tick = s.tick := rfl
@[simp] theorem emit_rstLow (e : Event) (s : State) : (emit e s).rstLow = s.rstLow := rfl

@[simp] theorem raiseErr_cfg (c : ErrCode) (s : State) : (raiseErr c s).cfg = s.cfg := rfl
@[simp] theorem raiseErr_fsm (c : ErrCode) (s : State) :
    (raiseErr c s).fsm =
      { s.fsm with phase := .fatal, errCode := c } := rfl
@[simp] theorem raiseErr_ptx (c : ErrCode) (s : State) : (raiseErr c s).ptx = s.ptx := rfl
@[simp] theorem raiseErr_pins (c : ErrCode) (s : State) : (raiseErr c s).pins = s.pins := rfl
@[simp] theorem raiseErr_ans (c : ErrCode) (s : State) : (raiseErr c s).ans = s.ans := rfl
@[simp] theorem raiseErr_units (c : ErrCode) (s : State) : (raiseErr c s).units = s.units := rfl
@[simp] theorem raiseErr_trace (c : ErrCode) (s : State) : (raiseErr c s).trace = s.trace ++ [.fatal c] := rfl
@[simp] theorem raiseErr_cuts (c : ErrCode) (s : State) : (raiseErr c s).cuts = s.cuts := rfl
@[simp] theorem raiseErr_stim (c : ErrCode) (s : State) : (raiseErr c s).stim = s.stim := rfl
@[simp] theorem raiseErr_tick (c : ErrCode) (s : State) : (raiseErr c s).tick = s.tick := rfl
@[simp] theorem raiseErr_rstLow (c : ErrCode) (s : State) : (raiseErr c s).rstLow = s.rstLow := rfl

@[simp] theorem emitCmd_cfg (r : CmdResult) (s : State) : (emitCmd r s).cfg = s.cfg := rfl
@[simp] theorem emitCmd_fsm (r : CmdResult) (s : State) : (emitCmd r s).fsm = s.fsm := rfl
@[simp] theorem emitCmd_ptx (r : CmdResult) (s : State) : (emitCmd r s).ptx = s.ptx := rfl
@[simp] theorem emitCmd_pins (r : CmdResult) (s : State) : (emitCmd r s).pins = s.pins := rfl
@[simp] theorem emitCmd_ans (r : CmdResult) (s : State) : (emitCmd r s).ans = s.ans := rfl
@[simp] theorem emitCmd_units (r : CmdResult) (s : State) : (emitCmd r s).units = s.units := rfl
@[simp] theorem emitCmd_trace (r : CmdResult) (s : State) :
    (emitCmd r s).trace =
      s.trace ++ [.cmd s.fsm.scene (sceneIdField s) (dimmingField s) r] := rfl
@[simp] theorem emitCmd_cuts (r : CmdResult) (s : State) : (emitCmd r s).cuts = s.cuts := rfl
@[simp] theorem emitCmd_stim (r : CmdResult) (s : State) : (emitCmd r s).stim = s.stim := rfl
@[simp] theorem emitCmd_tick (r : CmdResult) (s : State) : (emitCmd r s).tick = s.tick := rfl
@[simp] theorem emitCmd_rstLow (r : CmdResult) (s : State) : (emitCmd r s).rstLow = s.rstLow := rfl

@[simp] theorem advanceScene_cfg (s : State) : (advanceScene s).cfg = s.cfg := rfl
@[simp] theorem advanceScene_fsm (s : State) :
    (advanceScene s).fsm =
      { s.fsm with scene := s.fsm.scene ^^^ 1#1, dstate := .handled } := rfl
@[simp] theorem advanceScene_ptx (s : State) : (advanceScene s).ptx = s.ptx := rfl
@[simp] theorem advanceScene_pins (s : State) : (advanceScene s).pins = s.pins := rfl
@[simp] theorem advanceScene_ans (s : State) : (advanceScene s).ans = s.ans := rfl
@[simp] theorem advanceScene_units (s : State) : (advanceScene s).units = s.units := rfl
@[simp] theorem advanceScene_trace (s : State) : (advanceScene s).trace = s.trace := rfl
@[simp] theorem advanceScene_cuts (s : State) : (advanceScene s).cuts = s.cuts := rfl
@[simp] theorem advanceScene_stim (s : State) : (advanceScene s).stim = s.stim := rfl
@[simp] theorem advanceScene_tick (s : State) : (advanceScene s).tick = s.tick := rfl
@[simp] theorem advanceScene_rstLow (s : State) : (advanceScene s).rstLow = s.rstLow := rfl

@[simp] theorem rearm_cfg (s : State) : (rearm s).cfg = s.cfg := rfl
@[simp] theorem rearm_fsm (s : State) : (rearm s).fsm = { s.fsm with dstate := .idle } := rfl
@[simp] theorem rearm_ptx (s : State) : (rearm s).ptx = s.ptx := rfl
@[simp] theorem rearm_pins (s : State) : (rearm s).pins = s.pins := rfl
@[simp] theorem rearm_ans (s : State) : (rearm s).ans = s.ans := rfl
@[simp] theorem rearm_units (s : State) : (rearm s).units = s.units := rfl
@[simp] theorem rearm_trace (s : State) : (rearm s).trace = s.trace := rfl
@[simp] theorem rearm_cuts (s : State) : (rearm s).cuts = s.cuts := rfl
@[simp] theorem rearm_stim (s : State) : (rearm s).stim = s.stim := rfl
@[simp] theorem rearm_tick (s : State) : (rearm s).tick = s.tick := rfl
@[simp] theorem rearm_rstLow (s : State) : (rearm s).rstLow = s.rstLow := rfl

@[simp] theorem finishFrame_cfg (s : State) : (finishFrame s).cfg = s.cfg := rfl
@[simp] theorem finishFrame_fsm (s : State) : (finishFrame s).fsm = s.fsm := rfl
@[simp] theorem finishFrame_ptx (s : State) :
    (finishFrame s).ptx =
      { s.ptx with busy := false, done := true, err := false, dout := false } := rfl
@[simp] theorem finishFrame_pins (s : State) : (finishFrame s).pins = s.pins := rfl
@[simp] theorem finishFrame_ans (s : State) : (finishFrame s).ans = s.ans := rfl
@[simp] theorem finishFrame_units (s : State) : (finishFrame s).units = s.units := rfl
@[simp] theorem finishFrame_trace (s : State) : (finishFrame s).trace = s.trace ++ [.frame s.ptx.word .ok] := rfl
@[simp] theorem finishFrame_cuts (s : State) : (finishFrame s).cuts = s.cuts := rfl
@[simp] theorem finishFrame_stim (s : State) : (finishFrame s).stim = s.stim := rfl
@[simp] theorem finishFrame_tick (s : State) : (finishFrame s).tick = s.tick := rfl
@[simp] theorem finishFrame_rstLow (s : State) : (finishFrame s).rstLow = s.rstLow := rfl

@[simp] theorem abortFrame_cfg (s : State) : (abortFrame s).cfg = s.cfg := rfl
@[simp] theorem abortFrame_fsm (s : State) : (abortFrame s).fsm = s.fsm := rfl
@[simp] theorem abortFrame_ptx (s : State) :
    (abortFrame s).ptx =
      { s.ptx with busy := false, dout := false, done := true, err := true } := rfl
@[simp] theorem abortFrame_pins (s : State) : (abortFrame s).pins = s.pins := rfl
@[simp] theorem abortFrame_ans (s : State) : (abortFrame s).ans = s.ans := rfl
@[simp] theorem abortFrame_units (s : State) : (abortFrame s).units = s.units := rfl
@[simp] theorem abortFrame_trace (s : State) : (abortFrame s).trace = s.trace ++ [.frame s.ptx.word .fault] := rfl
@[simp] theorem abortFrame_cuts (s : State) : (abortFrame s).cuts = s.cuts := rfl
@[simp] theorem abortFrame_stim (s : State) : (abortFrame s).stim = s.stim := rfl
@[simp] theorem abortFrame_tick (s : State) : (abortFrame s).tick = s.tick := rfl
@[simp] theorem abortFrame_rstLow (s : State) : (abortFrame s).rstLow = s.rstLow := rfl

@[simp] theorem countTick_cfg (d : Bool) (s : State) : (countTick d s).cfg = s.cfg := rfl
@[simp] theorem countTick_fsm (d : Bool) (s : State) : (countTick d s).fsm = s.fsm := rfl
@[simp] theorem countTick_ptx (d : Bool) (s : State) :
    (countTick d s).ptx =
      { s.ptx with cnt := s.ptx.cnt + 1, dout := d } := rfl
@[simp] theorem countTick_pins (d : Bool) (s : State) : (countTick d s).pins = s.pins := rfl
@[simp] theorem countTick_ans (d : Bool) (s : State) : (countTick d s).ans = s.ans := rfl
@[simp] theorem countTick_units (d : Bool) (s : State) : (countTick d s).units = s.units := rfl
@[simp] theorem countTick_trace (d : Bool) (s : State) : (countTick d s).trace = s.trace := rfl
@[simp] theorem countTick_cuts (d : Bool) (s : State) : (countTick d s).cuts = s.cuts := rfl
@[simp] theorem countTick_stim (d : Bool) (s : State) : (countTick d s).stim = s.stim := rfl
@[simp] theorem countTick_tick (d : Bool) (s : State) : (countTick d s).tick = s.tick := rfl
@[simp] theorem countTick_rstLow (d : Bool) (s : State) : (countTick d s).rstLow = s.rstLow := rfl

@[simp] theorem enterPhase_cfg (ph : PtxPhase) (slot : Fin 24) (d : Bool) (s : State) :
    (enterPhase ph slot d s).cfg =
      s.cfg := rfl
@[simp] theorem enterPhase_fsm (ph : PtxPhase) (slot : Fin 24) (d : Bool) (s : State) :
    (enterPhase ph slot d s).fsm =
      s.fsm := rfl
@[simp] theorem enterPhase_ptx (ph : PtxPhase) (slot : Fin 24) (d : Bool) (s : State) :
    (enterPhase ph slot d s).ptx =
      { s.ptx with phase := ph, slot := slot, cnt := 0, dout := d } := rfl
@[simp] theorem enterPhase_pins (ph : PtxPhase) (slot : Fin 24) (d : Bool) (s : State) :
    (enterPhase ph slot d s).pins =
      s.pins := rfl
@[simp] theorem enterPhase_ans (ph : PtxPhase) (slot : Fin 24) (d : Bool) (s : State) :
    (enterPhase ph slot d s).ans =
      s.ans := rfl
@[simp] theorem enterPhase_units (ph : PtxPhase) (slot : Fin 24) (d : Bool) (s : State) :
    (enterPhase ph slot d s).units =
      s.units := rfl
@[simp] theorem enterPhase_trace (ph : PtxPhase) (slot : Fin 24) (d : Bool) (s : State) :
    (enterPhase ph slot d s).trace =
      s.trace := rfl
@[simp] theorem enterPhase_cuts (ph : PtxPhase) (slot : Fin 24) (d : Bool) (s : State) :
    (enterPhase ph slot d s).cuts =
      s.cuts := rfl
@[simp] theorem enterPhase_stim (ph : PtxPhase) (slot : Fin 24) (d : Bool) (s : State) :
    (enterPhase ph slot d s).stim =
      s.stim := rfl
@[simp] theorem enterPhase_tick (ph : PtxPhase) (slot : Fin 24) (d : Bool) (s : State) :
    (enterPhase ph slot d s).tick =
      s.tick := rfl
@[simp] theorem enterPhase_rstLow (ph : PtxPhase) (slot : Fin 24) (d : Bool) (s : State) :
    (enterPhase ph slot d s).rstLow = s.rstLow := rfl

@[simp] theorem passEdges_cfg (s : State) : (passEdges s).cfg = s.cfg := rfl
@[simp] theorem passEdges_fsm (s : State) :
    (passEdges s).fsm =
      { s.fsm with startR := false, sync := (List.range s.cfg.syncStages).map (Config.freeStage s.tick) } := rfl
@[simp] theorem passEdges_ptx (s : State) : (passEdges s).ptx = ptxIdle s.ptx := rfl
@[simp] theorem passEdges_pins (s : State) : (passEdges s).pins = s.pins := rfl
@[simp] theorem passEdges_ans (s : State) : (passEdges s).ans = s.ans := rfl
@[simp] theorem passEdges_units (s : State) : (passEdges s).units = s.units := rfl
@[simp] theorem passEdges_trace (s : State) : (passEdges s).trace = s.trace := rfl
@[simp] theorem passEdges_cuts (s : State) : (passEdges s).cuts = s.cuts := rfl
@[simp] theorem passEdges_stim (s : State) : (passEdges s).stim = s.stim := rfl
@[simp] theorem passEdges_tick (s : State) : (passEdges s).tick = s.tick + 1 := rfl
@[simp] theorem passEdges_rstLow (s : State) : (passEdges s).rstLow = s.rstLow := rfl

@[simp] theorem showFrame_cfg (w : ColorWord) (s : State) : (showFrame w s).cfg = s.cfg := rfl
@[simp] theorem showFrame_fsm (w : ColorWord) (s : State) : (showFrame w s).fsm = { s.fsm with wordR := w } := rfl
@[simp] theorem showFrame_pins (w : ColorWord) (s : State) : (showFrame w s).pins = s.pins := rfl
@[simp] theorem showFrame_ans (w : ColorWord) (s : State) : (showFrame w s).ans = s.ans := rfl
@[simp] theorem showFrame_units (w : ColorWord) (s : State) : (showFrame w s).units = s.units := rfl
@[simp] theorem showFrame_trace (w : ColorWord) (s : State) :
    (showFrame w s).trace =
      s.trace ++ [.frame w s.ans.txr] := rfl
@[simp] theorem showFrame_cuts (w : ColorWord) (s : State) : (showFrame w s).cuts = s.cuts := rfl
@[simp] theorem showFrame_stim (w : ColorWord) (s : State) : (showFrame w s).stim = s.stim := rfl
@[simp] theorem showFrame_tick (w : ColorWord) (s : State) : (showFrame w s).tick = s.tick := rfl
@[simp] theorem showFrame_rstLow (w : ColorWord) (s : State) : (showFrame w s).rstLow = s.rstLow := rfl

@[simp] theorem sleepThrough_cfg (s : State) : (sleepThrough s).cfg = s.cfg := rfl
@[simp] theorem sleepThrough_fsm (s : State) :
    (sleepThrough s).fsm =
      { s.fsm with sleepCnt := pollTicks s.cfg - 1 } := rfl
@[simp] theorem sleepThrough_ptx (s : State) : (sleepThrough s).ptx = s.ptx := rfl
@[simp] theorem sleepThrough_pins (s : State) : (sleepThrough s).pins = s.pins := rfl
@[simp] theorem sleepThrough_ans (s : State) : (sleepThrough s).ans = s.ans := rfl
@[simp] theorem sleepThrough_units (s : State) : (sleepThrough s).units = s.units := rfl
@[simp] theorem sleepThrough_trace (s : State) : (sleepThrough s).trace = s.trace := rfl
@[simp] theorem sleepThrough_cuts (s : State) : (sleepThrough s).cuts = s.cuts := rfl
@[simp] theorem sleepThrough_stim (s : State) : (sleepThrough s).stim = s.stim := rfl
@[simp] theorem sleepThrough_tick (s : State) : (sleepThrough s).tick = s.tick := rfl
@[simp] theorem sleepThrough_rstLow (s : State) : (sleepThrough s).rstLow = s.rstLow := rfl

@[simp] theorem afterEdge_cfg (s : State) : (afterEdge s).cfg = s.cfg := rfl
@[simp] theorem afterEdge_fsm (s : State) : (afterEdge s).fsm = s.fsm := rfl
@[simp] theorem afterEdge_ptx (s : State) : (afterEdge s).ptx = s.ptx := rfl
@[simp] theorem afterEdge_pins (s : State) : (afterEdge s).pins = nextPins s := rfl
@[simp] theorem afterEdge_ans (s : State) : (afterEdge s).ans = s.ans := rfl
@[simp] theorem afterEdge_units (s : State) : (afterEdge s).units = s.units := rfl
@[simp] theorem afterEdge_trace (s : State) : (afterEdge s).trace = s.trace := rfl
@[simp] theorem afterEdge_cuts (s : State) : (afterEdge s).cuts = s.cuts := rfl
@[simp] theorem afterEdge_stim (s : State) : (afterEdge s).stim = s.stim := rfl
@[simp] theorem afterEdge_tick (s : State) : (afterEdge s).tick = s.tick + 1 := rfl
@[simp] theorem afterEdge_rstLow (s : State) : (afterEdge s).rstLow = s.rstLow := rfl

@[simp] theorem goto_cfg (ph : Phase) (s : State) : (goto ph s).cfg = s.cfg := rfl
@[simp] theorem goto_fsm (ph : Phase) (s : State) : (goto ph s).fsm = { s.fsm with phase := ph } := rfl
@[simp] theorem goto_ptx (ph : Phase) (s : State) : (goto ph s).ptx = s.ptx := rfl
@[simp] theorem goto_pins (ph : Phase) (s : State) : (goto ph s).pins = s.pins := rfl
@[simp] theorem goto_ans (ph : Phase) (s : State) : (goto ph s).ans = s.ans := rfl
@[simp] theorem goto_units (ph : Phase) (s : State) : (goto ph s).units = s.units := rfl
@[simp] theorem goto_trace (ph : Phase) (s : State) : (goto ph s).trace = s.trace := rfl
@[simp] theorem goto_cuts (ph : Phase) (s : State) : (goto ph s).cuts = s.cuts := rfl
@[simp] theorem goto_stim (ph : Phase) (s : State) : (goto ph s).stim = s.stim := rfl
@[simp] theorem goto_tick (ph : Phase) (s : State) : (goto ph s).tick = s.tick := rfl
@[simp] theorem goto_rstLow (ph : Phase) (s : State) : (goto ph s).rstLow = s.rstLow := rfl

@[simp] theorem enterSleep_cfg (s : State) : (enterSleep s).cfg = s.cfg := rfl
@[simp] theorem enterSleep_fsm (s : State) : (enterSleep s).fsm = { s.fsm with sleepCnt := 0, phase := .sleep } := rfl
@[simp] theorem enterSleep_ptx (s : State) : (enterSleep s).ptx = s.ptx := rfl
@[simp] theorem enterSleep_pins (s : State) : (enterSleep s).pins = s.pins := rfl
@[simp] theorem enterSleep_ans (s : State) : (enterSleep s).ans = s.ans := rfl
@[simp] theorem enterSleep_units (s : State) : (enterSleep s).units = s.units := rfl
@[simp] theorem enterSleep_trace (s : State) : (enterSleep s).trace = s.trace := rfl
@[simp] theorem enterSleep_cuts (s : State) : (enterSleep s).cuts = s.cuts := rfl
@[simp] theorem enterSleep_stim (s : State) : (enterSleep s).stim = s.stim := rfl
@[simp] theorem enterSleep_tick (s : State) : (enterSleep s).tick = s.tick := rfl
@[simp] theorem enterSleep_rstLow (s : State) : (enterSleep s).rstLow = s.rstLow := rfl

@[simp] theorem requestFrame_cfg (w : ColorWord) (ph : Phase) (s : State) : (requestFrame w ph s).cfg = s.cfg := rfl
@[simp] theorem requestFrame_fsm (w : ColorWord) (ph : Phase) (s : State) :
    (requestFrame w ph s).fsm =
      { s.fsm with wordR := w, startR := true, phase := ph } := rfl
@[simp] theorem requestFrame_ptx (w : ColorWord) (ph : Phase) (s : State) : (requestFrame w ph s).ptx = s.ptx := rfl
@[simp] theorem requestFrame_pins (w : ColorWord) (ph : Phase) (s : State) :
    (requestFrame w ph s).pins =
      s.pins := rfl
@[simp] theorem requestFrame_ans (w : ColorWord) (ph : Phase) (s : State) : (requestFrame w ph s).ans = s.ans := rfl
@[simp] theorem requestFrame_units (w : ColorWord) (ph : Phase) (s : State) :
    (requestFrame w ph s).units =
      s.units := rfl
@[simp] theorem requestFrame_trace (w : ColorWord) (ph : Phase) (s : State) :
    (requestFrame w ph s).trace =
      s.trace := rfl
@[simp] theorem requestFrame_cuts (w : ColorWord) (ph : Phase) (s : State) :
    (requestFrame w ph s).cuts =
      s.cuts := rfl
@[simp] theorem requestFrame_stim (w : ColorWord) (ph : Phase) (s : State) :
    (requestFrame w ph s).stim =
      s.stim := rfl
@[simp] theorem requestFrame_tick (w : ColorWord) (ph : Phase) (s : State) :
    (requestFrame w ph s).tick =
      s.tick := rfl
@[simp] theorem requestFrame_rstLow (w : ColorWord) (ph : Phase) (s : State) :
    (requestFrame w ph s).rstLow = s.rstLow := rfl

@[simp] theorem shiftSync_cfg (s t : State) : (shiftSync s t).cfg = t.cfg := rfl
@[simp] theorem shiftSync_fsm (s t : State) :
    (shiftSync s t).fsm =
      { t.fsm with startR := false, sync := (s.pins.btn :: s.fsm.sync).take s.cfg.syncStages } := rfl
@[simp] theorem shiftSync_ptx (s t : State) : (shiftSync s t).ptx = t.ptx := rfl
@[simp] theorem shiftSync_pins (s t : State) : (shiftSync s t).pins = t.pins := rfl
@[simp] theorem shiftSync_ans (s t : State) : (shiftSync s t).ans = t.ans := rfl
@[simp] theorem shiftSync_units (s t : State) : (shiftSync s t).units = t.units := rfl
@[simp] theorem shiftSync_trace (s t : State) : (shiftSync s t).trace = t.trace := rfl
@[simp] theorem shiftSync_cuts (s t : State) : (shiftSync s t).cuts = t.cuts := rfl
@[simp] theorem shiftSync_stim (s t : State) : (shiftSync s t).stim = t.stim := rfl
@[simp] theorem shiftSync_tick (s t : State) : (shiftSync s t).tick = t.tick := rfl
@[simp] theorem shiftSync_rstLow (s t : State) : (shiftSync s t).rstLow = t.rstLow := rfl

/-- PTX after a shown frame, by the outcome of the transmission. -/
@[simp] theorem showFrame_ptx (w : ColorWord) (s : State) :
    (showFrame w s).ptx =
      match s.ans.txr with
      | .ok => ptxAfterFrame s.cfg w
      | .fault => ptxAfterCut s.cfg w s.tick := rfl

/-- What the operands of the FSM read depends on the configuration and `scene` alone. -/
theorem currentEntry_congr {s t : State} (hc : t.cfg = s.cfg) (hs : t.fsm.scene = s.fsm.scene) :
    currentEntry t = currentEntry s := by
  simp only [currentEntry, hc, hs]

theorem entryColor_congr {s t : State} (hc : t.cfg = s.cfg) (hs : t.fsm.scene = s.fsm.scene) :
    entryColor t = entryColor s := by
  simp only [entryColor, currentEntry_congr hc hs]

theorem feedbackWord_congr {s t : State} (hc : t.cfg = s.cfg) (hs : t.fsm.scene = s.fsm.scene) :
    feedbackWord t = feedbackWord s := by
  simp only [feedbackWord, entryColor_congr hc hs]

theorem sceneIdField_congr {s t : State} (hc : t.cfg = s.cfg) (hs : t.fsm.scene = s.fsm.scene) :
    sceneIdField t = sceneIdField s := by
  simp only [sceneIdField, currentEntry_congr hc hs]

theorem dimmingField_congr {s t : State} (hc : t.cfg = s.cfg) (hs : t.fsm.scene = s.fsm.scene) :
    dimmingField t = dimmingField s := by
  simp only [dimmingField, currentEntry_congr hc hs]

/-- The phase alone decides `fatal` (10_state.md R47). -/
theorem fatalFlag_congr {s t : State} (h : t.fsm.phase = s.fsm.phase) : fatalFlag t = fatalFlag s := by
  unfold fatalFlag
  rw [h]

@[simp] theorem fatalFlag_eq_true {s : State} : fatalFlag s = true ↔ s.fsm.phase = .fatal := decide_eq_true_iff

@[simp] theorem fatalFlag_eq_false {s : State} : fatalFlag s = false ↔ s.fsm.phase ≠ .fatal := decide_eq_false_iff_not

end Sys2Proof.Machine
end

