-- ==== Sys2Proof/Laws/Outcome.lean ====
section
/-! SUPPORT. What each shared operation and a step can do, said once: the inversion lemmas the provers cite. -/

namespace Sys2Proof.Machine

@[simp] theorem mapNext_next (f : State → State) (s : State) : mapNext f (.next s) = .next (f s) := rfl
@[simp] theorem mapNext_fault (f : State → State) (r : Fault) : mapNext f (.fault r) = .fault r := rfl
@[simp] theorem mapNext_refused (f : State → State) (r : Refusal) : mapNext f (.refused r) = .refused r := rfl

/-- A changed outcome is a next state only if the outcome was. -/
theorem mapNext_eq_next {f : State → State} {o : Host.Outcome State Fault Refusal} {t : State}
    (h : mapNext f o = .next t) : ∃ u, o = .next u ∧ t = f u := by
  cases o with
  | next u => exact ⟨u, rfl, by simpa using h.symm⟩
  | fault r => simp at h
  | refused r => simp at h

/-- The PTX operation of an edge leaves everything but PTX and the trace. -/
theorem txOp_leaves_rest {busy start fault : Bool} {s t : State} (h : exec (ptxctlOp busy start fault) s = .next t) :
    t = { s with ptx := t.ptx, trace := t.trace } := by
  have run_frame : ∀ u : State, (match s.ptx.phase with | .hi => runHi s | .lo => runLo s | .gap => runGap s) = u →
      u = { s with ptx := u.ptx, trace := u.trace } := by
    intro u hu
    subst hu
    cases s.ptx.phase
    · simp only [runHi]; split <;> rfl
    · simp only [runLo]; repeat' split
      all_goals rfl
    · simp only [runGap]; split <;> rfl
  cases busy <;> cases start <;> cases fault <;>
    simp only [ptxctlOp, exec, execTxIdle, execTxStart, execTxRun, execTxFault, Host.Outcome.next.injEq] at h
  all_goals first
    | (subst h; rfl)
    | exact run_frame t h

/-- The PTX operation of an edge always completes. -/
theorem txOp_completes (busy start fault : Bool) (s : State) :
    ∃ t, exec (ptxctlOp busy start fault) s = .next t := by
  cases busy <;> cases start <;> cases fault <;> exact ⟨_, rfl⟩

/-- Everything an edge with `rst_i` = 0 can do. -/
theorem runEdge_cases {s t : State} (h : runEdge s = .next t) :
    ∃ lvl p, lvl? s = some lvl ∧ exec (ptxSelected s s.pins.txFault) s = .next p ∧
      t = fsmEdge lvl s (shiftSync s p) := by
  unfold runEdge at h
  split at h
  · cases h
  · next lvl hl =>
    obtain ⟨p, hp, rfl⟩ := mapNext_eq_next h
    exact ⟨lvl, p, hl, hp, rfl⟩

/-- Everything a clock edge can do. -/
theorem clockEdge_cases {s t : State} (h : clockEdge s = .next t) :
    (s.pins.rst = true ∧ ∃ u, exec .rst s = .next u ∧ t = afterEdge u) ∨
    (s.pins.rst = false ∧ ∃ u, runEdge s = .next u ∧ t = afterEdge u) := by
  obtain ⟨u, hu, rfl⟩ := mapNext_eq_next h
  cases hr : s.pins.rst with
  | true => exact .inl ⟨rfl, u, by simpa [hr] using hu, rfl⟩
  | false => exact .inr ⟨rfl, u, by simpa [hr] using hu, rfl⟩

/-- A step answers a next state only under a legal configuration, and then it is what the next line does. -/
theorem step_cases {s t : State} (h : step s = .next t) : cfgLegal s.cfg = true ∧ runNext s = .next t := by
  unfold step at h
  split at h
  · next hl => exact ⟨hl, h⟩
  · cases h

/-- Under a legal configuration a step is what the next line does. -/
theorem step_of_legal {s : State} (h : cfgLegal s.cfg = true) : step s = runNext s := if_pos h

/-- An edge of PTX alone is the operation PTXCTL selects, the synchronizer's shift and the end of the edge. -/
theorem ptxOnlyEdge_cases {start : Option ColorWord} {fault : Bool} {s t : State}
    (h : ptxOnlyEdge start fault s = .next t) :
    ∃ p, exec (ptxctlOp s.ptx.busy start.isSome fault)
        { s with fsm := { s.fsm with wordR := start.getD s.fsm.wordR } } = .next p ∧
      t = afterEdge (shiftSync s p) := by
  obtain ⟨p, hp, rfl⟩ := mapNext_eq_next h
  exact ⟨p, hp, rfl⟩

/-- Every operation completes: no meaning ends in a fault or a refusal. -/
theorem exec_completes (i : Instr) (s : State) : ∃ t, exec i s = .next t := by
  cases i <;> try exact ⟨_, rfl⟩
  · simp only [exec, execPollPress]
    repeat' split
    all_goals exact ⟨_, rfl⟩
  · simp only [exec, execPollRelease]
    repeat' split
    all_goals exact ⟨_, rfl⟩

/-- What no operation touches: the configuration, the pins, the outcome inputs, the queue, the mark of a line `RST`. -/
theorem exec_leaves_inputs {i : Instr} {s t : State} (h : exec i s = .next t) :
    t.cfg = s.cfg ∧ t.pins = s.pins ∧ t.ans = s.ans ∧ t.stim = s.stim ∧ t.rstLow = s.rstLow := by
  have tx : ∀ b st f, exec (ptxctlOp b st f) s = .next t →
      t.cfg = s.cfg ∧ t.pins = s.pins ∧ t.ans = s.ans ∧ t.stim = s.stim ∧ t.rstLow = s.rstLow := by
    intro b st f ht
    rw [txOp_leaves_rest ht]
    exact ⟨rfl, rfl, rfl, rfl, rfl⟩
  cases i with
  | txIdle f => exact tx false false f h
  | txStart f => exact tx false true f h
  | txRun st => exact tx true st false h
  | txFault st => exact tx true st true h
  | pollPress =>
    simp only [exec, execPollPress, sendCommand] at h
    repeat' split at h
    all_goals
      cases h
      exact ⟨rfl, rfl, rfl, rfl, rfl⟩
  | pollRelease d =>
    simp only [exec, execPollRelease] at h
    repeat' split at h
    all_goals
      cases h
      exact ⟨rfl, rfl, rfl, rfl, rfl⟩
  | _ =>
    cases h
    exact ⟨rfl, rfl, rfl, rfl, rfl⟩

/-- A clock-level rule writes FSM registers and the trace only, and never the synchronizer. -/
theorem fsmEdge_leaves_rest (lvl : Bool) (s t : State) :
    fsmEdge lvl s t =
      { t with
        fsm := { (fsmEdge lvl s t).fsm with sync := t.fsm.sync }
        trace := (fsmEdge lvl s t).trace } := by
  unfold fsmEdge sampleEdge showPEdge sendEdge showREdge sleepEdge
  cases s.fsm.phase <;> simp only
  all_goals repeat' split
  all_goals rfl

/-- The four kinds of poll operation POLLCTL can select (30_encoding.md R107). -/
theorem pollSelected_cases (s : State) (lvl : Bool) :
    (s.fsm.phase ≠ .fatal ∧ lvl = false ∧ s.fsm.dstate = .idle ∧ pollSelected s lvl = .pollPress) ∨
    (s.fsm.phase ≠ .fatal ∧ lvl = false ∧ s.fsm.dstate = .handled ∧ pollSelected s lvl = .pollHold) ∨
    (s.fsm.phase ≠ .fatal ∧ lvl = true ∧ pollSelected s lvl = .pollRelease s.fsm.dstate) ∨
    (s.fsm.phase = .fatal ∧ pollSelected s lvl = .pollDead lvl s.fsm.dstate) := by
  unfold pollSelected fatalFlag
  by_cases hp : s.fsm.phase = .fatal
  · simp [hp, pollctlOp]
  · cases lvl <;> cases s.fsm.dstate <;> simp [hp, pollctlOp]

/-- An operand word on a unit changes the units' wires only (10_state.md R32). -/
theorem runOperand_cases {f : UnitFormat} {w : Nat} {s t : State} (h : runOperand f w s = .next t) :
    ∃ i, decode (unitFormat f) w = .op i ∧ exec i s = .next t ∧ t = { s with units := t.units } := by
  unfold runOperand at h
  split at h
  · next i hi =>
    refine ⟨i, hi, h, ?_⟩
    unfold decode at hi
    split at hi
    · cases f
      · cases hi; cases h; rfl
      · cases hi; cases h; rfl
      · cases hi; cases h; rfl
      · simp only [unitFormat, decodeFitting, Decoded.op.injEq] at hi
        split at hi
        all_goals
          subst hi
          cases h
          rfl
    · cases hi
  · cases h

/-- An edge of PTX alone keeps the configuration and the queue, and of the FSM it writes the request registers and the
synchronizer only. -/
theorem ptxOnlyEdge_leaves_rest {start : Option ColorWord} {fault : Bool} {s t : State}
    (h : ptxOnlyEdge start fault s = .next t) :
    t.cfg = s.cfg ∧ t.stim = s.stim ∧
      t.fsm = { s.fsm with
        startR := false
        wordR := start.getD s.fsm.wordR
        sync := (s.pins.btn :: s.fsm.sync).take s.cfg.syncStages } := by
  obtain ⟨p, hp, rfl⟩ := ptxOnlyEdge_cases h
  rw [txOp_leaves_rest hp]
  exact ⟨rfl, rfl, rfl⟩

/-- A clock edge keeps the configuration and the queue. -/
theorem clockEdge_leaves_inputs {s t : State} (h : clockEdge s = .next t) : t.cfg = s.cfg ∧ t.stim = s.stim := by
  rcases clockEdge_cases h with ⟨-, u, hu, rfl⟩ | ⟨-, u, hu, rfl⟩
  · exact ⟨(exec_leaves_inputs hu).1, (exec_leaves_inputs hu).2.2.2.1⟩
  · obtain ⟨lvl, p, -, hp, rfl⟩ := runEdge_cases hu
    rw [fsmEdge_leaves_rest]
    exact ⟨(exec_leaves_inputs hp).1, (exec_leaves_inputs hp).2.2.2.1⟩

/-- A line `RST` is RST, and afterwards `rst_i` is 0. -/
theorem resetLine_cases {s t : State} (h : resetLine s = .next t) :
    ∃ u, exec .rst { s with rstLow := true } = .next u ∧ t = afterEdge u ∧ t.rstLow = true ∧ t.pins.rst = false := by
  obtain ⟨u, hu, rfl⟩ := mapNext_eq_next h
  have hr : u.rstLow = true := (exec_leaves_inputs hu).2.2.2.2
  exact ⟨u, hu, rfl, hr, by simp [nextPins, hr]⟩

/-- Waiting for `ptx_done` touches the queue only. -/
theorem untilDone_leaves_rest (s : State) : untilDone s = { s with stim := (untilDone s).stim } := by
  unfold untilDone
  split <;> rfl

end Sys2Proof.Machine
end

