-- ==== Sys2Proof/Laws/PerInstr.lean ====
section
/-! SUPPORT. Per-instruction facts: the encoding of every operation fits the width of its format (30_encoding.md R100). -/

namespace Sys2Proof.Laws.EncodingFits

/-- The word of the operation has no more bits than its format. -/
abbrev Statement (i : Instr) : Prop := (encode i).2 < 2 ^ formatWidth (encode i).1

theorem cvt (h : BitVec 9) (sat : BitVec 7) (v : BitVec 7) : Statement (.cvt h sat v) := by
  have h1 := h.isLt
  have h2 := sat.isLt
  have h3 := v.isLt
  simp only [Statement, encode, formatWidth]
  omega

theorem pack (r g b : Byte) : Statement (.pack r g b) := by
  have h1 := r.isLt
  have h2 := g.isLt
  have h3 := b.isLt
  simp only [Statement, encode, formatWidth]
  omega

theorem enc (w : ColorWord) : Statement (.enc w) := w.isLt

theorem sym1 : Statement .sym1 := by decide
theorem sym0 : Statement .sym0 := by decide
theorem txIdle (fault : Bool) : Statement (.txIdle fault) := by cases fault <;> decide
theorem txStart (fault : Bool) : Statement (.txStart fault) := by cases fault <;> decide
theorem txRun (start : Bool) : Statement (.txRun start) := by cases start <;> decide
theorem txFault (start : Bool) : Statement (.txFault start) := by cases start <;> decide
theorem pollPress : Statement .pollPress := by decide
theorem pollHold : Statement .pollHold := by decide
theorem pollRelease (d : DState) : Statement (.pollRelease d) := by cases d <;> decide
theorem pollDead (lvl : Bool) (d : DState) : Statement (.pollDead lvl d) := by cases lvl <;> cases d <;> decide
theorem rst : Statement .rst := by decide

end Sys2Proof.Laws.EncodingFits
end

