-- ==== Sys2Proof/Laws/Timing.lean ====
section
/-! SUPPORT. What a legal configuration gives (00_scope.md R10), and the bounds of the phase lengths (10_state.md R43). -/

namespace Sys2Proof.Machine

/-- The clauses of a legal configuration (00_scope.md R10). -/
theorem cfgLegal_iff {c : Cfg} : cfgLegal c = true ↔
    (entryLegal c.scene0 = true ∧ entryLegal c.scene1 = true) ∧
      (1 ≤ t1h c ∧ 1 ≤ t1l c ∧ 1 ≤ t0h c ∧ 1 ≤ t0l c) ∧ (1 ≤ pollTicks c ∧ 1 ≤ c.syncStages) := by
  simp only [cfgLegal, Bool.and_eq_true, decide_eq_true_eq, and_assoc]

/-- The clauses of a legal table entry (00_scope.md R10). -/
theorem entryLegal_iff {e : SceneEntry} : entryLegal e = true ↔
    e.h ≤ 360 ∧ e.s ≤ 100 ∧ e.v ≤ 100 ∧ e.dimming ≤ 100 ∧ e.sceneId < 2 ^ 8 := by
  simp only [entryLegal, decide_eq_true_eq]

/-- The entry that is read is legal under a legal configuration (20_memory.md R73). -/
theorem sceneEntry_legal {c : Cfg} (h : cfgLegal c = true) (n : BitVec 1) : entryLegal (sceneEntry c n) = true := by
  obtain ⟨⟨h0, h1⟩, -⟩ := cfgLegal_iff.mp h
  unfold sceneEntry
  split
  · exact h0
  · exact h1

theorem highTicks_pos {c : Cfg} (h : cfgLegal c = true) (x : Sym) : 1 ≤ highTicks c x := by
  obtain ⟨-, ⟨h1, -, h3, -⟩, -⟩ := cfgLegal_iff.mp h
  cases x
  · exact h3
  · exact h1

theorem lowTicks_pos {c : Cfg} (h : cfgLegal c = true) (x : Sym) : 1 ≤ lowTicks c x := by
  obtain ⟨-, ⟨-, h2, -, h4⟩, -⟩ := cfgLegal_iff.mp h
  cases x
  · exact h4
  · exact h2

theorem pollTicks_pos {c : Cfg} (h : cfgLegal c = true) : 1 ≤ pollTicks c := (cfgLegal_iff.mp h).2.2.1

theorem syncStages_pos {c : Cfg} (h : cfgLegal c = true) : 1 ≤ c.syncStages := (cfgLegal_iff.mp h).2.2.2

/-- No phase is longer than the longest (10_state.md R43). -/
theorem phaseTicks_le_max (c : Cfg) (w : ColorWord) (slot : Fin 24) (ph : PtxPhase) :
    phaseTicks c w slot ph ≤ maxPhaseTicks c := by
  cases ph <;> simp only [phaseTicks, maxPhaseTicks]
  · cases slotSym w slot <;> simp only [highTicks] <;> omega
  · cases slotSym w slot <;> simp only [lowTicks] <;> omega
  · omega

/-- Under a legal configuration a frame is cut in a phase that has a length (42_pulse_transmit.md R227, R228). -/
theorem cutPhase_ticks_pos {c : Cfg} (h : cfgLegal c = true) (w : ColorWord) (slot : Fin 24) (k : Fin 3) :
    1 ≤ phaseTicks c w slot (cutPhase c k) := by
  unfold cutPhase
  split
  · exact highTicks_pos h _
  · split
    · exact lowTicks_pos h _
    · next hk =>
      simp only [not_or] at hk
      simp only [phaseTicks]
      omega

/-- The least width that holds `m` holds it (00_scope.md R9). -/
theorem lt_two_pow_widthFor (m : Nat) : m < 2 ^ widthFor m := by
  unfold widthFor
  split
  · next h => simp [h]
  · next h => exact (Nat.log2_lt h).mp (Nat.lt_succ_self _)

end Sys2Proof.Machine
end

