-- ==== Sys2Proof/Tests/Slice0.lean ====
section
/-! SUPPORT. Tests: expected values from 95_test_vectors.md and the rules, each named by its vector; and for every
obligation with hypotheses a state and operands that meet them together, clause by clause. -/

namespace Sys2Proof.Tests

open Sys2Proof.Machine

/-- A field of a next state; none for a fault or a refusal. -/
def after {α : Type} (g : State → α) : Host.Outcome State Fault Refusal → Option α
  | .next t => some (g t)
  | .fault _ => none
  | .refused _ => none

/-- A poll period of 50 ns, one tick at 20 MHz, and a gap of `r` ticks (CFG-B with a shorter sleep). -/
def cfgShort (r : Nat) (m : ReleaseMode) : Cfg :=
  { Config.default with pollPeriodNs := 50, resetTicks := r, releaseMode := m }

/-- Right after reset, but for the FSM's phase, `dstate` and sampled level. -/
def sAt (c : Cfg) (ph : Phase) (d : DState) (lvl : Bool) : State :=
  { State.resetWith c with
    fsm := { fsmReset c with phase := ph, dstate := d, sync := List.replicate c.syncStages lvl } }

/-- A frame of `w` in flight at this place. -/
def sBusy (c : Cfg) (w : ColorWord) (ph : PtxPhase) (slot : Fin 24) (cnt : Nat) : State :=
  { State.resetWith c with ptx := { ptxReset with busy := true, word := w, phase := ph, slot := slot, cnt := cnt } }

/-- The level configuration and the edge configuration of the tests. -/
def cL : Cfg := cfgShort 0 .level
def cE : Cfg := cfgShort 0 .edge
/-- Three ticks of gap (CFG-B-RT3). -/
def cGap : Cfg := cfgShort 3 .level
/-- A table entry whose hue is out of domain: an illegal configuration. -/
def cBad : Cfg := { cL with scene0 := ⟨361, 0, 0, 0, 0⟩ }

/-- No reset, button released, sender silent. -/
def quiet : Pins := pinsReset

/-! ### Well-formedness: what the checks refuse -/

theorem test_wf_cvt_too_wide : Line.wf (.operand .hsv23 (2 ^ 23)) = false := by decide
theorem test_wf_pack_too_wide : Line.wf (.operand .rgb24 (2 ^ 24)) = false := by decide
theorem test_wf_enc_too_wide : Line.wf (.operand .frame24 (2 ^ 24)) = false := by decide
theorem test_wf_sym_third_value : Line.wf (.operand .sym 2) = false := by decide
theorem test_wf_press_zero : PseudoLine.wf (.press 0) = false := by decide
theorem test_wf_show_hue : PseudoLine.wf (.showColor 361#9 100#7 100#7) = false := by decide
theorem test_wf_show_saturation : PseudoLine.wf (.showColor 360#9 101#7 100#7) = false := by decide
theorem test_wf_show_value : PseudoLine.wf (.showColor 360#9 100#7 101#7) = false := by decide
theorem test_wf_show_edge : PseudoLine.wf (.showColor 360#9 100#7 100#7) = true := by decide
theorem test_wf_program : programWf [.rst, .operand .sym 2] = false := by decide
theorem test_cfg_default_legal : cfgLegal Config.default = true := by decide
theorem test_cfg_hue_illegal : cfgLegal cBad = false := by decide
theorem test_cfg_dimming_illegal : cfgLegal { cL with scene1 := ⟨0, 0, 0, 0, 101⟩ } = false := by decide
theorem test_cfg_id_illegal : cfgLegal { cL with scene1 := ⟨0, 0, 0, 256, 0⟩ } = false := by decide
theorem test_cfg_clock_too_slow : cfgLegal { cL with clkHz := 1000000 } = false := by decide
theorem test_cfg_no_sleep : cfgLegal { cL with pollPeriodNs := 24 } = false := by decide
theorem test_cfg_no_sync : cfgLegal { cL with syncStages := 0 } = false := by decide

/-! ### Decoding: words written out from 30_encoding.md, field by field -/

/-- R101: h = 200, s = 37, v = 81 (V2.39). -/
theorem test_decode_cvt : decode .hsv23 0b011001000_0100101_1010001 = .op (.cvt 200#9 37#7 81#7) := by decide
/-- R103: r = 165, g = 60, b = 129 (V2.44). -/
theorem test_decode_pack : decode .rgb24 0b10100101_00111100_10000001 = .op (.pack 165#8 60#8 129#8) := by decide
/-- R105. -/
theorem test_decode_enc : decode .frame24 0b10100101_00111100_10000001 = .op (.enc 0xA53C81#24) := by decide
/-- R104. -/
theorem test_decode_sym : decode .sym 0b1 = .op .sym1 ∧ decode .sym 0b0 = .op .sym0 := by decide
/-- R106, V2.61: all eight values. -/
theorem test_decode_ptxctl :
    decode .ptxctl 0b000 = .op (.txIdle false) ∧ decode .ptxctl 0b001 = .op (.txIdle true) ∧
    decode .ptxctl 0b010 = .op (.txStart false) ∧ decode .ptxctl 0b011 = .op (.txStart true) ∧
    decode .ptxctl 0b100 = .op (.txRun false) ∧ decode .ptxctl 0b110 = .op (.txRun true) ∧
    decode .ptxctl 0b101 = .op (.txFault false) ∧ decode .ptxctl 0b111 = .op (.txFault true) := by decide
/-- R107, V2.70 to V2.77: all eight values. -/
theorem test_decode_pollctl :
    decode .pollctl 0b000 = .op .pollPress ∧ decode .pollctl 0b001 = .op .pollHold ∧
    decode .pollctl 0b010 = .op (.pollRelease .idle) ∧ decode .pollctl 0b011 = .op (.pollRelease .handled) ∧
    decode .pollctl 0b100 = .op (.pollDead false .idle) ∧ decode .pollctl 0b101 = .op (.pollDead false .handled) ∧
    decode .pollctl 0b110 = .op (.pollDead true .idle) ∧ decode .pollctl 0b111 = .op (.pollDead true .handled) := by
  decide
/-- R108: RSTCTL 0 is no operation. -/
theorem test_decode_rstctl : decode .rstctl 0b1 = .op .rst ∧ decode .rstctl 0b0 = .rejected .noReset := by decide
/-- R109, R110: data formats. -/
theorem test_decode_data_only :
    decode .cmd16 0x0664 = .rejected .dataOnly ∧ decode .err2 0b10 = .rejected .dataOnly := by decide
/-- Words that do not fit. -/
theorem test_decode_too_wide : decode .ptxctl 8 = .rejected .tooWide ∧ decode .rstctl 2 = .rejected .tooWide := by decide
/-- The bare words of the table (notes/assumptions/13.md). -/
theorem test_decode_table_word :
    decodeTableWord 23 0x5A3264 = some (.cvt 360#9 100#7 100#7) ∧
    decodeTableWord 3 0b101 = some (.txFault false) ∧ decodeTableWord 1 1 = some .rst ∧
    decodeTableWord 1 0 = some .sym0 ∧ decodeTableWord 16 0 = none := by decide
/-- A word placed by `withFetchWord` runs at the very next step. -/
theorem test_fetch_word :
    after (fun t => t.ptx.busy) (step (State.reset.withFetchWord 3 0b010)) = some true ∧
    after (fun t => t.ptx.err) (step (State.reset.withFetchWord 3 0b101)) = some true := by decide

/-! ### Operations -/

/-- V2.19. -/
theorem test_cvt_general : after (fun t => t.units.cvt) (exec (.cvt 200#9 37#7 81#7) State.reset)
    = some ⟨130#8, 181#8, 206#8, false⟩ := by decide
/-- V2.33. -/
theorem test_cvt_saturation_out : after (fun t => t.units.cvt) (exec (.cvt 360#9 101#7 100#7) State.reset)
    = some ⟨0#8, 0#8, 0#8, true⟩ := by decide
/-- V2.44. -/
theorem test_pack : after (fun t => t.units.word) (exec (.pack 165#8 60#8 129#8) State.reset)
    = some 0xA53C81#24 := by decide
/-- V1.10: slot 0 and slot 23 are ones, the rest zeros. -/
theorem test_enc : after (fun t => t.units.frame) (exec (.enc 0x800001#24) State.reset)
    = some ([Sym.one] ++ List.replicate 22 .zero ++ [.one]) := by decide
/-- V2.54 at 10 MHz. -/
theorem test_sym1 : after (fun t => t.units.pulse) (exec .sym1 (State.resetWith { cL with clkHz := 10000000 }))
    = some ⟨7, 6⟩ := by decide
/-- V2.55 at 10 MHz: 3.5 periods round up. -/
theorem test_sym0 : after (fun t => t.units.pulse) (exec .sym0 (State.resetWith { cL with clkHz := 10000000 }))
    = some ⟨4, 8⟩ := by decide
/-- V2.67: a fault while idle is not remembered. -/
theorem test_tx_idle : after (fun t => (t.ptx.done, t.ptx.err)) (exec (.txIdle true)
    { State.reset with ptx := { ptxReset with done := true, err := true } }) = some (false, false) := by decide
/-- V2.63, edge E0. -/
theorem test_tx_start : after (fun t => t.ptx) (exec (.txStart false)
    { State.reset with fsm := { fsmReset Config.default with wordR := 0x330000#24 } })
    = some ⟨true, .hi, 0, 0, 0x330000#24, true, false, false⟩ := by decide
/-- V2.63, edge E0 + 23: the low part of slot 0 ends, slot 1 begins. -/
theorem test_tx_run_next_slot : after (fun t => (t.ptx.slot, t.ptx.phase, t.ptx.cnt, t.ptx.dout))
    (exec (.txRun false) (sBusy cL 0x330000#24 .lo 0 15)) = some (1, .hi, 0, true) := by decide
/-- V2.64: with RESET_TICKS = 3, slot 23 is followed by the gap. -/
theorem test_tx_run_gap : after (fun t => (t.ptx.busy, t.ptx.phase, t.ptx.cnt))
    (exec (.txRun false) (sBusy cGap 0x000000#24 .lo 23 15)) = some (true, .gap, 0) := by decide
/-- V2.66: a fault at the completion edge wins. -/
theorem test_tx_fault : after (fun t => (t.ptx.busy, t.ptx.done, t.ptx.err, t.trace))
    (exec (.txFault false) (sBusy cL 0x330000#24 .lo 23 15))
    = some (false, true, true, [.frame 0x330000#24 .fault]) := by decide
/-- P1, the first press (V1.16, V1.18). -/
theorem test_poll_press : after (fun t => (pstate t, t.trace)) (exec .pollPress State.reset)
    = some (⟨1#1, .handled, false, .none⟩, [.frame 0x330000#24 .ok, .cmd 0#1 12#8 100#7 .ok]) := by decide
/-- R345: the frame fault comes first, the send error is never seen. -/
theorem test_poll_press_fault : after (fun t => (pstate t, t.trace))
    (exec .pollPress { State.reset with ans := ⟨.fault, .err⟩ })
    = some (⟨0#1, .idle, true, .peripheralError⟩, [.frame 0x330000#24 .fault, .fatal .peripheralError]) := by decide
/-- R284. -/
theorem test_poll_hold : after (fun t => (pstate t, t.trace)) (exec .pollHold (sAt cL .sample .handled false))
    = some (⟨0#1, .handled, false, .none⟩, []) := by decide
/-- V1.15. -/
theorem test_poll_release : after (fun t => (pstate t, t.trace))
    (exec (.pollRelease .handled) (sAt cE .sample .handled true))
    = some (⟨0#1, .idle, false, .none⟩, [.frame 0x000000#24 .ok]) := by decide
/-- R275, EDGE mode. -/
theorem test_poll_release_edge : after (fun t => t.trace)
    (exec (.pollRelease .idle) (sAt cE .sample .idle true)) = some [] := by decide
/-- R287. -/
theorem test_poll_dead : after (fun t => (pstate t, t.trace)) (exec (.pollDead false .idle) (sAt cL .fatal .idle false))
    = some (⟨0#1, .idle, true, .none⟩, []) := by decide
/-- R381: a reset in mid-frame drops the line and leaves no event. -/
theorem test_rst : after (fun t => (t.ptx, t.trace, t.cuts)) (exec .rst (sBusy cL 0x330000#24 .hi 2 5))
    = some (ptxReset, [], [0x330000#24]) := by decide

/-! ### Pseudo-operations, the datagram -/

/-- R116: SHOW of (0, 100, 20) is CVT, PACK, TX (V1.16, P1). -/
theorem test_show : expandPseudo (.showColor 0#9 100#7 20#7)
    = some [.operand .hsv23 0x003214, .operand .rgb24 0x330000, .tx 0x330000#24] := by decide
/-- R116: CLICK. -/
theorem test_click : expandPseudo .click = some [.poll false .ok .ok, .poll true .ok .ok] := by decide
/-- V2.94. -/
theorem test_cmd16 : cmd16 { State.reset with fsm := { fsmReset Config.default with scene := 1#1 } } = 0x830A#16 := by
  decide
/-- V1.19: the numbers of the first command's payload, 20 characters from the 38th of 59 on; 0 is written `0` (R303). -/
theorem test_datagram :
    ((datagramText 12#8 100#7).drop 37).take 20 = asciiText "Id\":12,\"dimming\":100" ∧
    (datagramText 12#8 100#7).length = 59 ∧ decimalText 0 = asciiText "0" := by decide

/-! ### Witnesses: every obligation with hypotheses, clause by clause -/

theorem witness_CvtConvertsOrRejects :
    (360 < (361#9).toNat ∧ 100 < (101#7).toNat) ∧ (360#9).toNat ≤ 360 ∧ (100#7).toNat ≤ 100 ∧ (0#9).toNat / 60 = 0 ∧
    (60#9).toNat / 60 = 1 ∧ (120#9).toNat / 60 = 2 ∧ (180#9).toNat / 60 = 3 ∧ (240#9).toNat / 60 = 4 ∧
    (300#9).toNat / 60 = 5 ∧ (360#9).toNat / 60 = 6 := by decide

/-- CvtEqualsSourceDefinition and LegalColorsFitEightBits, at the largest operands and the largest fold. -/
theorem witness_legal_color : (360 : Nat) ≤ 360 ∧ (100 : Nat) ≤ 100 ∧ (60 : Nat) ≤ 60 ∧
    (channels 360 100 100).1 = 255 := by decide

theorem witness_HueMeetsAtSectorBoundaries :
    ((1 : Nat) ≤ 1 ∧ (1 : Nat) ≤ 5 ∧ channels 60 100 100 = (255, 255, 0)) ∧
    ((1 : Nat) ≤ 5 ∧ (5 : Nat) ≤ 5 ∧ channels 300 100 100 = (255, 0, 255)) := by decide

theorem witness_GrayAndBlackColors :
    (360 : Nat) ≤ 360 ∧ (1 : Nat) ≤ 100 ∧ channels 360 0 1 = (2, 2, 2) ∧ (cvt 360 100 0).invalid = false := by decide

theorem witness_TicksRoundToNearest :
    20000000 ∣ cL.clkHz ∧ t0h cL * 1000000000 = 350 * cL.clkHz ∧ ¬ 20000000 ∣ 10000000 ∧
    t0h { cL with clkHz := 10000000 } * 1000000000 ≠ 350 * 10000000 := by decide

theorem witness_TxRunHighPart :
    (sBusy cL 0xFFFFFF#24 .hi 0 13).ptx.phase = .hi ∧ t1h cL = 14 ∧ (sBusy cL 0xFFFFFF#24 .hi 0 12).ptx.phase = .hi := by
  decide

/-- The four clauses: inside the low part, its end with a next slot, with a gap, and without one. -/
theorem witness_TxRunLowPart :
    ((sBusy cL 0x000000#24 .lo 22 14).ptx.phase = .lo ∧ ((14 : Nat) : ℤ) ≠ (t0l cL : ℤ) - 1) ∧
    ((sBusy cL 0x000000#24 .lo 22 15).ptx.phase = .lo ∧ ((15 : Nat) : ℤ) = (t0l cL : ℤ) - 1 ∧
      (23 : Fin 24).val = (22 : Fin 24).val + 1) ∧
    ((sBusy cGap 0x000000#24 .lo 23 15).ptx.slot = 23 ∧ ((15 : Nat) : ℤ) = (t0l cGap : ℤ) - 1 ∧ 0 < cGap.resetTicks) ∧
    ((sBusy cL 0x000000#24 .lo 23 15).ptx.slot = 23 ∧ cL.resetTicks = 0) := by decide

theorem witness_TxRunGapPart :
    (sBusy cGap 0x000000#24 .gap 23 2).ptx.phase = .gap ∧ ((2 : Nat) : ℤ) = (cGap.resetTicks : ℤ) - 1 ∧
    (sBusy cGap 0x000000#24 .gap 23 1).ptx.phase = .gap := by decide

theorem witness_PtxctlSelectsOneOperation :
    ((sAt cL .sample .idle true).ptx.busy = false ∧ (sAt cL .sample .idle true).fsm.startR = false) ∧
    ({ State.reset with fsm := { fsmReset cL with startR := true } } : State).fsm.startR = true ∧
    (sBusy cL 0#24 .hi 0 0).ptx.busy = true := by decide

theorem witness_FrameCompletesOnTime :
    cfgLegal (State.resetWith cL).cfg = true ∧ (State.resetWith cL).ptx.busy = false ∧
    frameTicks cL 0x330000#24 = 564 ∧ frameTicks cGap 0x000000#24 = 555 := by decide

theorem witness_LineFollowsTheFrame :
    cfgLegal (State.resetWith cL).cfg = true ∧ (State.resetWith cL).ptx.busy = false ∧
    0 < frameTicks cL 0x330000#24 ∧ 563 < frameTicks cL 0x330000#24 := by decide

/-- The four clauses: an entry out of domain, a faulted frame, a failed send, no error. -/
theorem witness_PressShowsSendsAndAdvances :
    ((State.resetWith cBad).fsm.phase ≠ .fatal ∧
      360 < (sceneEntry (State.resetWith cBad).cfg (State.resetWith cBad).fsm.scene).h) ∧
    (State.reset.fsm.phase ≠ .fatal ∧ (sceneEntry Config.default 0#1).h ≤ 360 ∧
      (sceneEntry Config.default 0#1).s ≤ 100 ∧ (sceneEntry Config.default 0#1).v ≤ 100 ∧
      State.reset.ans = ⟨.ok, .ok⟩) ∧
    ({ State.reset with ans := ⟨.fault, .err⟩ } : State).ans.txr = .fault ∧
    ({ State.reset with ans := ⟨.ok, .err⟩ } : State).ans = ⟨.ok, .err⟩ := by decide

/-- The three clauses, the first in both modes. -/
theorem witness_ReleaseTurnsOffAndRearms :
    ((State.resetWith cL).cfg.releaseMode = .level ∧ (State.resetWith cL).ans.txr = .ok) ∧
    ((sAt cE .sample .handled true).fsm.dstate = .handled ∧ (sAt cE .sample .handled true).ans.txr = .ok) ∧
    (({ sAt cE .sample .handled true with ans := ⟨.fault, .ok⟩ } : State).fsm.dstate = .handled ∧
      ({ sAt cE .sample .handled true with ans := ⟨.fault, .ok⟩ } : State).ans.txr = .fault) ∧
    ((State.resetWith cE).cfg.releaseMode = .edge ∧ (State.resetWith cE).fsm.dstate = .idle) := by decide

/-- The kinds of operation, an idle PTX, and a cycle without a frame. -/
theorem witness_PollOperationsLeaveTheRest :
    (Instr.pollRelease .idle = .pollPress ∨ Instr.pollRelease .idle = .pollHold ∨
      ∃ d, Instr.pollRelease .idle = .pollRelease d) ∧
    (sAt cE .sample .idle true).ptx.busy = false ∧
    after (fun t => t.trace.drop 0) (exec (.pollRelease .idle) (sAt cE .sample .idle true)) = some [] :=
  ⟨.inr (.inr ⟨.idle, rfl⟩), by decide, by decide⟩

theorem witness_PollctlSelectsOneOperation :
    ((sAt cL .sample .idle false).fsm.phase ≠ .fatal ∧ (sAt cL .sample .idle false).fsm.dstate = .idle) ∧
    (sAt cL .sample .handled false).fsm.dstate = .handled ∧ (sAt cL .fatal .handled false).fsm.phase = .fatal := by decide

theorem witness_DebounceAndToggle :
    (State.resetWith cE).fsm.phase = .sample ∧ (State.resetWith cE).fsm.dstate = .idle ∧
    cfgLegal (State.resetWith cE).cfg = true := by decide

theorem witness_RstResetsEveryRegister :
    (State.resetWith cL).ptx.busy = false ∧ (sBusy cL 0#24 .hi 0 0).ptx.busy = true := by decide

theorem witness_ResetOverridesTheEdge :
    cfgLegal cL = true ∧
    ({ State.resetWith cL with stim := [.edge { quiet with rst := true }] } : State).stim
      = .edge { quiet with rst := true } :: [] ∧
    ({ quiet with rst := true } : Pins).rst = true := by decide

/-- A line `RST`, and a step after it. -/
theorem witness_ResetLineHoldsForOneEdge :
    (cfgLegal cL = true ∧ ({ State.resetWith cL with stim := [.rst] } : State).stim = .rst :: []) ∧
    (({ State.resetWith cL with rstLow := true } : State).rstLow = true ∧
      ({ State.resetWith cL with rstLow := true } : State).pins.rst = false ∧
      ({ State.resetWith cL with rstLow := true } : State).stim = [] ∧
      after (fun t => t.pins.rst) (step { State.resetWith cL with rstLow := true }) = some false) := by decide

/-- The five clauses; the state with the illegal entry meets the first. -/
theorem witness_SampleEdgeDecides :
    ((sAt cBad .sample .idle false).pins.rst = false ∧ lvl? (sAt cBad .sample .idle false) = some false ∧
      (sAt cBad .sample .idle false).fsm.phase = .sample ∧ (sAt cBad .sample .idle false).fsm.dstate = .idle ∧
      (entryColor (sAt cBad .sample .idle false)).invalid = true) ∧
    (lvl? (sAt cL .sample .idle false) = some false ∧ (entryColor (sAt cL .sample .idle false)).invalid = false) ∧
    (lvl? (sAt cL .sample .handled false) = some false ∧ (sAt cL .sample .handled false).fsm.dstate = .handled) ∧
    (lvl? (sAt cE .sample .handled true) = some true ∧ (sAt cE .sample .handled true).fsm.dstate = .handled) ∧
    (lvl? (sAt cE .sample .idle true) = some true ∧ cE.releaseMode = .edge) := by decide

/-- A state in the phase `ph` whose frame has been reported, with or without an error. -/
def sDone (ph : Phase) (err : Bool) : State :=
  { sAt cL ph .handled false with ptx := { ptxReset with done := true, err := err } }

theorem witness_ShowPEdgeWaitsForDone :
    ((sAt cL .showP .idle false).pins.rst = false ∧ lvl? (sAt cL .showP .idle false) = some false ∧
      (sAt cL .showP .idle false).fsm.phase = .showP ∧ (sAt cL .showP .idle false).ptx.done = false) ∧
    ((sDone .showP true).fsm.phase = .showP ∧ (sDone .showP true).ptx.done = true ∧ (sDone .showP true).ptx.err = true ∧
      lvl? (sDone .showP true) = some false) ∧
    ((sDone .showP false).ptx.done = true ∧ (sDone .showP false).ptx.err = false) := by decide

theorem witness_SendEdgeTakesTheAnswer :
    ((sAt cL .send .idle false).pins.rst = false ∧ lvl? (sAt cL .send .idle false) = some false ∧
      (sAt cL .send .idle false).fsm.phase = .send ∧ (sAt cL .send .idle false).pins.cmdAck = false) ∧
    ({ sAt cL .send .idle false with pins := { quiet with cmdAck := true, cmdErr := true } } : State).pins.cmdErr = true ∧
    ({ sAt cL .send .idle false with pins := { quiet with cmdAck := true } } : State).pins.cmdErr = false := by decide

theorem witness_ShowREdgeWaitsForDone :
    ((sAt cL .showR .idle true).pins.rst = false ∧ lvl? (sAt cL .showR .idle true) = some true ∧
      (sAt cL .showR .idle true).fsm.phase = .showR ∧ (sAt cL .showR .idle true).ptx.done = false) ∧
    ((sDone .showR true).fsm.phase = .showR ∧ (sDone .showR true).ptx.done = true ∧ (sDone .showR true).ptx.err = true) ∧
    ((sDone .showR false).ptx.done = true ∧ (sDone .showR false).ptx.err = false) := by decide

/-- The last tick of a sleep, and one before the last in the default configuration. -/
theorem witness_SleepEdgeCounts :
    ((sAt cL .sleep .idle true).pins.rst = false ∧ lvl? (sAt cL .sleep .idle true) = some true ∧
      (sAt cL .sleep .idle true).fsm.phase = .sleep ∧
      ((sAt cL .sleep .idle true).fsm.sleepCnt : ℤ) = (pollTicks cL : ℤ) - 1) ∧
    ((sAt Config.default .sleep .idle true).fsm.sleepCnt : ℤ) ≠ (pollTicks Config.default : ℤ) - 1 := by decide

theorem witness_FatalEdgeKeepsTheRegisters :
    (sAt cL .fatal .idle true).pins.rst = false ∧ lvl? (sAt cL .fatal .idle true) = some true ∧
    (sAt cL .fatal .idle true).fsm.phase = .fatal ∧ PtxFree (sAt cL .fatal .idle true) := by decide

theorem witness_SynchronizerDelaysTheButton :
    cfgLegal (State.resetWith cL).cfg = true ∧ (State.resetWith cL).fsm.sync.length = (State.resetWith cL).cfg.syncStages ∧
    [{ quiet with btn := false }, quiet].length = (State.resetWith cL).cfg.syncStages ∧
    ∀ p ∈ [{ quiet with btn := false }, quiet], p.rst = false := by decide

/-- A clock edge, an edge of PTX alone, and a stage behind the first. -/
theorem witness_EveryEdgeShiftsTheSynchronizer :
    cfgLegal cL = true ∧ (sAt cL .sleep .idle true).fsm.sync.length = cL.syncStages ∧
    (sAt cL .sleep .idle true).pins.rst = false ∧ 1 < cL.syncStages ∧
    after (fun t => t.fsm.sync) (clockEdge { sAt cL .sleep .idle true with pins := { quiet with btn := false } })
      = some [false, true] ∧
    after (fun t => t.fsm.sync) (ptxOnlyEdge none false { sAt cL .sleep .idle true with pins := { quiet with btn := false } })
      = some [false, true] := by decide

/-- A start request in SHOW_P, of the feedback word of scene 0. -/
def sRequest : State :=
  { sAt cL .showP .idle false with
    fsm := { (sAt cL .showP .idle false).fsm with startR := true, wordR := 0x330000#24 } }

theorem witness_StartRequestsAreNeverIgnored : Handshake sRequest ∧ sRequest.fsm.startR = true :=
  ⟨⟨.inl ⟨rfl, rfl, rfl⟩, rfl, by decide⟩, rfl⟩

/-- Both kinds of quiet cycle. -/
theorem witness_QuietCycleLength :
    (cfgLegal (sAt cL .sample .handled false).cfg = true ∧
      (sAt cL .sample .handled false).fsm.sync.length = (sAt cL .sample .handled false).cfg.syncStages ∧
      (sAt cL .sample .handled false).fsm.phase = .sample ∧ lvl? (sAt cL .sample .handled false) = some false ∧
      (sAt cL .sample .handled false).fsm.dstate = .handled ∧ [quiet, quiet].length = pollTicks cL + 1 ∧
      ∀ p ∈ [quiet, quiet], p.rst = false) ∧
    (lvl? (sAt cE .sample .idle true) = some true ∧ (sAt cE .sample .idle true).cfg.releaseMode = .edge ∧
      (sAt cE .sample .idle true).fsm.dstate = .idle) := by decide

/-- A hold: the sample edge, one edge of sleep, and the next sample point. -/
theorem witness_ClockCycleRefinesPollStep :
    ∃ t, Handshake (sAt cL .sample .handled false) ∧ (sAt cL .sample .handled false).fsm.phase = .sample ∧
      [quiet, quiet] ≠ [] ∧ (∀ p ∈ [quiet, quiet], p.rst = false) ∧
      (∀ k u, 0 < k → k < [quiet, quiet].length →
        Host.Core.run core k (withEdges [quiet, quiet] (sAt cL .sample .handled false)) = .next u →
          atPollPoint u = false) ∧
      Host.Core.run core [quiet, quiet].length (withEdges [quiet, quiet] (sAt cL .sample .handled false)) = .next t ∧
      atPollPoint t = true := by
  refine ⟨_, ⟨rfl, rfl, rfl⟩, rfl, by decide, by decide, ?_, rfl, rfl⟩
  intro k u h1 h2 h3
  have hk : k = 1 := by simp only [List.length_cons, List.length_nil] at h2; omega
  subst hk
  cases h3
  rfl

theorem witness_StepKeepsRegisterRanges :
    RegsOk (State.resetWith cL) ∧ after (fun t => t.fsm.phase) (step (State.resetWith cL)) = some .showR := by decide

theorem witness_StepKeepsHandshake :
    Handshake sRequest ∧ sRequest.stim.all wholeBlock = true ∧
    after (fun t => t.ptx.busy) (step sRequest) = some true :=
  ⟨witness_StartRequestsAreNeverIgnored.1, by decide, by decide⟩

theorem witness_ResetMeetsTheInvariants : cfgLegal cL = true ∧ cfgLegal cGap = true := by decide

theorem witness_StepKeepsConfiguration :
    after (fun t => t.cfg.clkHz) (step (State.resetWith cL)) = some 20000000 := by decide

theorem witness_FatalIsAbsorbing :
    (sAt cL .fatal .idle true).fsm.phase = .fatal ∧ resetNow (sAt cL .fatal .idle true) = false ∧
    after (fun t => t.fsm.phase) (step (sAt cL .fatal .idle true)) = some .fatal ∧
    PtxFree (sAt cL .fatal .idle true) ∧ (sAt cL .fatal .idle true).ptx.dout = false ∧
    (sAt cL .fatal .idle true).stim.all wholeBlock = true := by decide

/-- The acknowledge edge, and the poll-level press. -/
theorem witness_OnlyAPressChangesTheScene :
    (resetNow { sAt cL .send .idle false with pins := { quiet with cmdAck := true } } = false ∧
      after (fun t => t.fsm.scene) (step { sAt cL .send .idle false with pins := { quiet with cmdAck := true } })
        = some 1#1) ∧
    (pinsNow { sAt cL .send .idle false with pins := { quiet with cmdAck := true } }).cmdAck = true ∧
    (resetNow { State.resetWith cL with stim := [.poll false .ok .ok] } = false ∧
      after (fun t => t.fsm.scene) (step { State.resetWith cL with stim := [.poll false .ok .ok] })
        = some 1#1) := by decide

/-- The clauses: an operand word, a poll line, an edge of PTX, an edge of the block, a reset line, nothing queued. -/
theorem witness_StepRunsTheDecodedOperation :
    (cfgLegal (State.resetWith cL).cfg = true ∧
      decode (unitFormat .hsv23) 0x5A3264 = .op (.cvt 360#9 100#7 100#7)) ∧
    (atPollPoint (State.resetWith cL) = true ∧ (State.resetWith cL).ptx.busy = false) ∧
    ({ State.resetWith cL with stim := [.ptxEdge none true] } : State).stim = [.ptxEdge none true] ∧
    (({ State.resetWith cL with stim := [.edge quiet] } : State).stim = [.edge quiet] ∧ quiet.rst = false ∧
      lvl? { State.resetWith cL with stim := [.edge quiet] } = some true) ∧
    ({ State.resetWith cL with stim := [.rst] } : State).stim = [.rst] ∧ (State.resetWith cL).stim = [] := by decide

theorem witness_DecodeOfEncodeIsTheOperation : (Instr.cvt 360#9 100#7 100#7).wf = true := by decide

/-- The largest word of each width, and a reset edge. -/
theorem witness_DecodingIsTotal :
    2 ^ 23 - 1 < 2 ^ 23 ∧ decode .hsv23 (2 ^ 23 - 1) = .op (.cvt 511#9 127#7 127#7) ∧
    decode .rgb24 (2 ^ 24 - 1) = .op (.pack 255#8 255#8 255#8) ∧
    ({ State.reset with pins := { quiet with rst := true } } : State).pins.rst = true := by decide

/-- A phase other than SEND; SEND without an acknowledge; an idle PTX. -/
theorem witness_UnheardInputsChangeNothing :
    (sAt cL .sleep .idle true).fsm.phase ≠ .send ∧
    ((sAt cL .send .idle false).fsm.phase = .send ∧ (sAt cL .send .idle false).pins.cmdAck = false) ∧
    (sAt cL .sleep .idle true).ptx.busy = false := by decide

theorem witness_EncodeOfDecodeIsTheWord : decode .hsv23 0x7FFFFF = .op (.cvt 511#9 127#7 127#7) := by decide

end Sys2Proof.Tests
end

section
/-! PROOFS. What every step keeps of the configuration, the reset values, the outputs (10_state.md). -/

namespace Sys2Proof.Machine

/-! ### The configuration (10_state.md R30) -/

theorem exec_keeps_cfg {i : Instr} {s t : State} (h : exec i s = .next t) : t.cfg = s.cfg :=
  (exec_leaves_inputs h).1

theorem ptxOnlyEdge_keeps_cfg {start : Option ColorWord} {fault : Bool} {s t : State}
    (h : ptxOnlyEdge start fault s = .next t) : t.cfg = s.cfg :=
  (ptxOnlyEdge_leaves_rest h).1

theorem clockEdge_keeps_cfg {s t : State} (h : clockEdge s = .next t) : t.cfg = s.cfg :=
  (clockEdge_leaves_inputs h).1

@[simp] theorem untilDone_cfg (s : State) : (untilDone s).cfg = s.cfg := by
  rw [untilDone_leaves_rest]

/-- No line of stimulus changes the configuration: each one is an edge of the block, an edge of PTX alone or one
operation, and none of these does. Where a line first writes its queue, pins or mark, the law is about that written state;
`(… :)` lets it be read there, and its configuration is that of `s` by computation. -/
theorem runLine_keeps_cfg {l : Line} {s t : State} (h : runLine l s = .next t) : t.cfg = s.cfg := by
  cases l with
  | rst =>
    obtain ⟨u, hu, rfl, -⟩ := resetLine_cases h
    exact (exec_keeps_cfg hu :)
  | poll lvl txr cmdr =>
    simp only [runLine] at h
    split at h
    · split at h
      · exact (ptxOnlyEdge_keeps_cfg h :)
      · obtain ⟨u, hu, rfl⟩ := mapNext_eq_next h
        exact (exec_keeps_cfg hu :)
    · exact (clockEdge_keeps_cfg h :)
  | operand f word =>
    obtain ⟨i, -, hi, -⟩ := runOperand_cases h
    exact exec_keeps_cfg hi
  | tx w =>
    obtain ⟨u, hu, rfl⟩ := mapNext_eq_next h
    exact (untilDone_cfg u).trans (ptxOnlyEdge_keeps_cfg hu)
  | untilDone =>
    obtain ⟨u, hu, rfl⟩ := mapNext_eq_next h
    exact (untilDone_cfg u).trans (ptxOnlyEdge_keeps_cfg hu)
  | wait n =>
    match n, h with
    | 0, h => cases h; rfl
    | 1, h => exact ptxOnlyEdge_keeps_cfg h
    | n + 2, h => exact (ptxOnlyEdge_keeps_cfg h :)
  | ptxEdge start fault => exact ptxOnlyEdge_keeps_cfg h
  | edge p => exact (clockEdge_keeps_cfg h :)

theorem runNext_keeps_cfg {s t : State} (h : runNext s = .next t) : t.cfg = s.cfg := by
  unfold runNext at h
  split at h
  · exact clockEdge_keeps_cfg h
  · exact (runLine_keeps_cfg h :)

/-- Settles O45: a step is what the next line does, and no line changes the configuration. -/
theorem stepKeepsConfiguration : Obligations.StepKeepsConfiguration := by
  intro s t h
  obtain ⟨-, hrun⟩ := step_cases h
  exact runNext_keeps_cfg hrun

/-! ### The reset values (10_state.md R51) -/

@[simp] theorem resetWith_cfg (c : Cfg) : (State.resetWith c).cfg = c := rfl
@[simp] theorem resetWith_fsm (c : Cfg) : (State.resetWith c).fsm = fsmReset c := rfl
@[simp] theorem resetWith_ptx (c : Cfg) : (State.resetWith c).ptx = ptxReset := rfl

/-- Settles O31: the core's reset is `State.resetWith` of its own configuration, whose registers are the reset values of
the FSM and of PTX. -/
theorem resetValues : Obligations.ResetValues :=
  ⟨rfl, fun c => ⟨resetWith_cfg c, resetWith_fsm c, resetWith_ptx c⟩⟩

/-! ### The outputs (10_state.md R46) -/

/-- A concatenation of bit fields, read as a number (00_scope.md R14). -/
theorem toNat_append_eq_mul_add {m n : Nat} (x : BitVec m) (y : BitVec n) :
    (x ++ y).toNat = x.toNat * 2 ^ n + y.toNat := by
  rw [BitVec.toNat_append, ← Nat.shiftLeft_add_eq_or_of_lt y.isLt, Nat.shiftLeft_eq]

/-- CMD16 as a number, by its three fields (30_encoding.md R109). -/
theorem cmd16_toNat (s : State) :
    (cmd16 s).toNat = s.fsm.scene.toNat * 2 ^ 15 + (sceneIdField s).toNat * 2 ^ 7 + (dimmingField s).toNat := by
  simp only [cmd16, toNat_append_eq_mul_add]
  omega

/-- `dstate_o` is 1 exactly in HANDLED (10_state.md R36). -/
theorem dstateBit_eq_decide (d : DState) : dstateBit d = decide (d = .handled) := by
  cases d <;> rfl

/-- Settles O48: the error code by its four values, `dstate` by its two, CMD16 by its fields; every other output is its
register or its table field as it stands. -/
theorem outputsFollowTheRegisters : Obligations.OutputsFollowTheRegisters := by
  intro s
  refine ⟨?_, cmd16_toNat s⟩
  simp only [outputs, dstateBit_eq_decide]
  cases s.fsm.errCode <;> rfl

end Sys2Proof.Machine
end

section
/-! PROOFS. The operations the words of each format select, and the edge on which RST overrides them (30_encoding.md
R106, R107, R108, R112). -/

namespace Sys2Proof

/-! ### The bits of the words -/

/-- A field that starts at bit 0 is the word itself, cut to the field's width. -/
@[simp] theorem bitField_zero (w n : Nat) : bitField w 0 n = BitVec.ofNat n w := rfl

@[simp] theorem dstateOfBit_dstateBit (d : DState) : dstateOfBit (dstateBit d) = d := by
  cases d <;> rfl

@[simp] theorem dstateBit_dstateOfBit (b : Bool) : dstateBit (dstateOfBit b) = b := by
  cases b <;> rfl

theorem threeBits_lt (b2 b1 b0 : Bool) : threeBits b2 b1 b0 < 2 ^ 3 := by
  decide +revert

/-- A 3-bit word is made of its three bits. -/
theorem threeBits_testBit {w : Nat} (hw : w < 2 ^ 3) : threeBits (w.testBit 2) (w.testBit 1) (w.testBit 0) = w := by
  decide +revert

/-- The three bits of a control vector read back from its word. -/
theorem testBit_threeBits (b2 b1 b0 : Bool) :
    (threeBits b2 b1 b0).testBit 2 = b2 ∧ (threeBits b2 b1 b0).testBit 1 = b1 ∧
      (threeBits b2 b1 b0).testBit 0 = b0 := by
  decide +revert

/-! ### The control vectors (30_encoding.md R106, R107) -/

theorem decode_ptxctl_threeBits (busy start fault : Bool) :
    decode .ptxctl (threeBits busy start fault) = .op (ptxctlOp busy start fault) := by
  obtain ⟨hbusy, hstart, hfault⟩ := testBit_threeBits busy start fault
  rw [decode_of_lt (threeBits_lt busy start fault), decodeFitting, hbusy, hstart, hfault]

theorem decode_pollctl_threeBits (dead lvl : Bool) (d : DState) :
    decode .pollctl (threeBits dead lvl (dstateBit d)) = .op (pollctlOp dead lvl d) := by
  obtain ⟨hdead, hlvl, hd⟩ := testBit_threeBits dead lvl (dstateBit d)
  rw [decode_of_lt (threeBits_lt dead lvl (dstateBit d)), decodeFitting, hdead, hlvl, hd, dstateOfBit_dstateBit]

end Sys2Proof

namespace Sys2Proof.Machine

theorem ptxSelected_eq_txIdle {s : State} (hb : s.ptx.busy = false) (hs : s.fsm.startR = false) (fault : Bool) :
    ptxSelected s fault = .txIdle fault := by
  rw [ptxSelected, hb, hs, ptxctlOp]

theorem ptxSelected_eq_txStart {s : State} (hb : s.ptx.busy = false) (hs : s.fsm.startR = true) (fault : Bool) :
    ptxSelected s fault = .txStart fault := by
  rw [ptxSelected, hb, hs, ptxctlOp]

theorem ptxSelected_eq_txRun {s : State} (hb : s.ptx.busy = true) : ptxSelected s false = .txRun s.fsm.startR := by
  rw [ptxSelected, hb, ptxctlOp]

theorem ptxSelected_eq_txFault {s : State} (hb : s.ptx.busy = true) : ptxSelected s true = .txFault s.fsm.startR := by
  rw [ptxSelected, hb, ptxctlOp]

/-- Settles O19: the word of PTXCTL reads back as its three bits, and the table gives one row for each. -/
theorem ptxctlSelectsOneOperation : Obligations.PtxctlSelectsOneOperation := by
  intro s fault
  refine ⟨decode_ptxctl_threeBits s.ptx.busy s.fsm.startR fault, ?_, ?_, ?_, ?_⟩
  · exact fun hb hs => ptxSelected_eq_txIdle hb hs fault
  · exact fun hb hs => ptxSelected_eq_txStart hb hs fault
  · rintro hb rfl
    exact ptxSelected_eq_txRun hb
  · rintro hb rfl
    exact ptxSelected_eq_txFault hb

theorem pollSelected_eq_pollPress {s : State} (hp : s.fsm.phase ≠ .fatal) (hd : s.fsm.dstate = .idle) :
    pollSelected s false = .pollPress := by
  rw [pollSelected, fatalFlag_eq_false.mpr hp, hd, pollctlOp]

theorem pollSelected_eq_pollHold {s : State} (hp : s.fsm.phase ≠ .fatal) (hd : s.fsm.dstate = .handled) :
    pollSelected s false = .pollHold := by
  rw [pollSelected, fatalFlag_eq_false.mpr hp, hd, pollctlOp]

theorem pollSelected_eq_pollRelease {s : State} (hp : s.fsm.phase ≠ .fatal) :
    pollSelected s true = .pollRelease s.fsm.dstate := by
  rw [pollSelected, fatalFlag_eq_false.mpr hp, pollctlOp]

theorem pollSelected_eq_pollDead {s : State} (hp : s.fsm.phase = .fatal) (lvl : Bool) :
    pollSelected s lvl = .pollDead lvl s.fsm.dstate := by
  rw [pollSelected, fatalFlag_eq_true.mpr hp, pollctlOp]

/-- Settles O27: the word of POLLCTL reads back as its three bits, and the table gives one row for each. -/
theorem pollctlSelectsOneOperation : Obligations.PollctlSelectsOneOperation := by
  intro s lvl
  refine ⟨decode_pollctl_threeBits (fatalFlag s) lvl s.fsm.dstate, ?_, ?_, ?_, ?_⟩
  · rintro hp rfl hd
    exact pollSelected_eq_pollPress hp hd
  · rintro hp rfl hd
    exact pollSelected_eq_pollHold hp hd
  · rintro hp rfl
    exact pollSelected_eq_pollRelease hp
  · exact fun hp => pollSelected_eq_pollDead hp lvl

/-! ### The edge with `rst_i` = 1 (30_encoding.md R108) -/

/-- A step with a line in the queue is that line. -/
theorem step_of_line {s : State} {l : Line} {rest : List Line} (hc : cfgLegal s.cfg = true) (hs : s.stim = l :: rest) :
    step s = runLine l { s with stim := rest } := by
  rw [step_of_legal hc, runNext, hs]

/-- An edge with `rst_i` = 1 is RST and the end of the edge. -/
theorem clockEdge_of_rst {s u : State} (hr : s.pins.rst = true) (hu : exec .rst s = .next u) :
    clockEdge s = .next (afterEdge u) := by
  rw [clockEdge, if_pos hr, hu, mapNext_next]

/-- Settles O30: the edge line is a clock edge with the line's pins, which is RST; the end of the edge writes the pins
and the edge counter only. -/
theorem resetOverridesTheEdge : Obligations.ResetOverridesTheEdge := by
  intro s p rest hc hs hr
  have hstep : step s = clockEdge { s with stim := rest, pins := p, rstLow := false } := step_of_line hc hs
  exact ⟨_, _, rfl, hstep.trans (clockEdge_of_rst hr rfl), rfl, rfl, rfl, rfl, rfl⟩

/-! ### Every word (30_encoding.md R112) -/

/-- Settles O55: a word that fits its format decodes by the format's table, and a 3-bit word is made of its bits; an
edge with `rst_i` = 1 is RST whatever the control vectors are. -/
theorem decodingIsTotal : Obligations.DecodingIsTotal := by
  refine ⟨?_, ?_, ?_, ?_, ?_, ?_⟩
  · exact fun w hw => ⟨_, _, _, decode_of_lt hw⟩
  · exact fun w hw => ⟨_, _, _, decode_of_lt hw⟩
  · intro w hw
    rw [decode_of_lt hw, decodeFitting, bitField_zero]
  · exact fun w hw => ⟨_, _, _, (threeBits_testBit hw).symm, decode_of_lt hw⟩
  · intro w hw
    refine ⟨w.testBit 2, w.testBit 1, dstateOfBit (w.testBit 0), ?_, decode_of_lt hw⟩
    rw [dstateBit_dstateOfBit, threeBits_testBit hw]
  · intro s hr
    obtain ⟨u, hu⟩ := exec_completes .rst s
    exact ⟨u, afterEdge u, hu, clockEdge_of_rst hr hu, afterEdge_fsm u, afterEdge_ptx u, afterEdge_trace u⟩

end Sys2Proof.Machine
end

section
/-! PROOFS. CVT: its channels, their range, the hues where sectors meet, and the source's rational definition
(40_color_convert.md). -/

namespace Sys2Proof.Machine

/-! ### `Q(f)` (40_color_convert.md R140, R150, R152, R153) -/

/-- `Q(60)`, the value of the component c, does not depend on the saturation (R150). -/
theorem chanQ_sixty (s v : Nat) : chanQ s v 60 = 51 * v / 20 := by
  have hfactor : s * 60 + 6000 - 60 * s = 6000 := by omega
  rw [chanQ, hfactor]
  omega

theorem chanQ_le_chanQ_sixty (s v : Nat) {f : Nat} (hf : f ≤ 60) : chanQ s v f ≤ chanQ s v 60 := by
  unfold chanQ
  gcongr

theorem chanQ_le_255 (s : Nat) {v f : Nat} (hv : v ≤ 100) (hf : f ≤ 60) : chanQ s v f ≤ 255 := by
  have hle := chanQ_le_chanQ_sixty s v hf
  rw [chanQ_sixty] at hle
  omega

theorem chanQ_zero_saturation (v f : Nat) : chanQ 0 v f = 51 * v / 20 := by
  rw [← chanQ_sixty 0, chanQ, chanQ, Nat.zero_mul, Nat.zero_mul]

@[simp] theorem chanQ_zero_value (s f : Nat) : chanQ s 0 f = 0 := by
  simp [chanQ]

/-! ### The order of the components (40_color_convert.md R140) -/

theorem arrange_eq_ite (k c x z : Nat) :
    arrange k c x z =
      if k = 0 then (c, x, z) else if k = 1 then (x, c, z) else if k = 2 then (z, c, x)
      else if k = 3 then (z, x, c) else if k = 4 then (x, z, c) else (c, z, x) :=
  match k with
  | 0 | 1 | 2 | 3 | 4 | _ + 5 => rfl

/-- Equal components give a gray, whatever the sector. -/
theorem arrange_same (k c : Nat) : arrange k c c c = (c, c, c) :=
  match k with
  | 0 | 1 | 2 | 3 | 4 | _ + 5 => rfl

/-- A bound of the three components bounds the three channels, whatever the sector. -/
theorem arrange_le {b c x z : Nat} (k : Nat) (hc : c ≤ b) (hx : x ≤ b) (hz : z ≤ b) :
    (arrange k c x z).1 ≤ b ∧ (arrange k c x z).2.1 ≤ b ∧ (arrange k c x z).2.2 ≤ b :=
  match k with
  | 0 => ⟨hc, hx, hz⟩
  | 1 => ⟨hx, hc, hz⟩
  | 2 => ⟨hz, hc, hx⟩
  | 3 => ⟨hz, hx, hc⟩
  | 4 => ⟨hx, hz, hc⟩
  | _ + 5 => ⟨hc, hz, hx⟩

/-- Neighbouring sectors agree where x has reached the component of their common boundary: c where an even sector is on
the left, z where an odd one is (R151). -/
theorem arrange_succ {k : Nat} (hk : k < 5) (c z : Nat) :
    arrange (k + 1) c (if k % 2 = 0 then c else z) z = arrange k c (if k % 2 = 0 then c else z) z :=
  match k, hk with
  | 0, _ | 1, _ | 2, _ | 3, _ | 4, _ => rfl

/-! ### The channels of a legal triple (40_color_convert.md R140, R150) -/

theorem channels_le_255 {h s v : Nat} (hh : h ≤ 360) (hv : v ≤ 100) :
    (channels h s v).1 ≤ 255 ∧ (channels h s v).2.1 ≤ 255 ∧ (channels h s v).2.2 ≤ 255 :=
  arrange_le _ (chanQ_le_255 s hv le_rfl) (chanQ_le_255 s hv (fold_le hh)) (chanQ_le_255 s hv (Nat.zero_le 60))

/-- The 8-bit outputs of CVT lose nothing of the exact channels. -/
theorem cvt_toNat_of_legal {h s v : Nat} (hh : h ≤ 360) (hs : s ≤ 100) (hv : v ≤ 100) :
    ((cvt h s v).r.toNat, (cvt h s v).g.toNat, (cvt h s v).b.toNat) = channels h s v := by
  obtain ⟨hr, hg, hb⟩ := channels_le_255 (s := s) hh hv
  rw [cvt_of_legal (outOfDomain_eq_false.mpr ⟨hh, hs, hv⟩)]
  simp only [BitVec.toNat_ofNat]
  rw [Nat.mod_eq_of_lt (by omega), Nat.mod_eq_of_lt (by omega), Nat.mod_eq_of_lt (by omega)]

theorem cvt_invalid_of_legal {h s v : Nat} (hh : h ≤ 360) (hs : s ≤ 100) (hv : v ≤ 100) :
    (cvt h s v).invalid = false := by
  rw [cvt_invalid, outOfDomain_eq_false]
  exact ⟨hh, hs, hv⟩

theorem exec_cvt (h : BitVec 9) (sat v : BitVec 7) (s : State) :
    exec (.cvt h sat v) s = .next { s with units := { s.units with cvt := cvt h.toNat sat.toNat v.toNat } } := rfl

/-- Settles O1: the outputs are `cvt` of the operand's numbers, which is zeros out of domain and the exact channels in
domain, in the order that `arrange` gives them. -/
theorem cvtConvertsOrRejects : Obligations.CvtConvertsOrRejects := by
  intro h sat v s
  refine ⟨_, exec_cvt h sat v s, ?_, ?_⟩
  · exact fun hout => cvt_of_outOfDomain (outOfDomain_eq_true.mpr hout)
  · intro hh hs hv
    exact ⟨cvt_invalid_of_legal hh hs hv, (cvt_toNat_of_legal hh hs hv).trans (arrange_eq_ite _ _ _ _)⟩

/-- Settles O3: the bounds of the chroma factor and of `F` bound `Q(f)` by `Q(60)`, and 8 bits hold that. -/
theorem legalColorsFitEightBits : Obligations.LegalColorsFitEightBits := by
  intro h s v hh hs hv
  obtain ⟨hr, hgb⟩ := Prod.mk.inj (cvt_toNat_of_legal hh hs hv)
  obtain ⟨hg, hb⟩ := Prod.mk.inj hgb
  refine ⟨cvt_invalid_of_legal hh hs hv, chanQ_sixty s v, chanQ_le_255 s hv le_rfl, fold_le hh, ?_, hr, hg, hb⟩
  exact fun f hf => ⟨by omega, chromaFactor_le hf, chanQ_le_chanQ_sixty s v hf⟩

/-! ### Where sectors meet (40_color_convert.md R151) -/

/-- At both ends of the hue circle the fold is 0, and the first and the last sector give (C, Z, Z). -/
theorem channels_360 (s v : Nat) : channels 360 s v = channels 0 s v := rfl

theorem cvt_360 (s v : Nat) : cvt 360 s v = cvt 0 s v := by
  have hdomain : outOfDomain 360 s v = outOfDomain 0 s v := by simp [outOfDomain]
  rw [cvt, cvt, hdomain, channels_360]

theorem sector_boundary {k : Nat} (hk : k < 5) : sector (60 * (k + 1)) = k + 1 := by
  rw [sector, Nat.mul_div_cancel_left _ (by decide)]
  omega

/-- The fold at an inner boundary, by the parity of the sector on the left. -/
theorem fold_boundary {k : Nat} (hk : k < 5) : fold (60 * (k + 1)) = if k % 2 = 0 then 60 else 0 := by
  rw [fold, sector_boundary hk]
  split <;> split <;> omega

/-- Settles O4: the sector on the right of a boundary has the fold in which the sector on the left ends, and with it the
two orders agree. -/
theorem hueMeetsAtSectorBoundaries : Obligations.HueMeetsAtSectorBoundaries := by
  refine ⟨cvt_360, fun j s v hj1 hj5 => ?_⟩
  obtain ⟨k, rfl⟩ := Nat.exists_eq_add_of_le' hj1
  rw [Nat.add_sub_cancel, channels, sector_boundary (by omega), fold_boundary (by omega), apply_ite (chanQ s v)]
  exact arrange_succ (by omega) _ _

/-! ### Gray, black and the primaries (40_color_convert.md R152, R153, R156) -/

theorem channels_zero_saturation (h v : Nat) : channels h 0 v = (51 * v / 20, 51 * v / 20, 51 * v / 20) := by
  simp only [channels, chanQ_zero_saturation, arrange_same]

theorem channels_zero_value (h s : Nat) : channels h s 0 = (0, 0, 0) := by
  simp only [channels, chanQ_zero_value, arrange_same]

theorem cvt_zero_saturation {h v : Nat} (hh : h ≤ 360) (hv : v ≤ 100) :
    cvt h 0 v =
      ⟨BitVec.ofNat 8 (51 * v / 20), BitVec.ofNat 8 (51 * v / 20), BitVec.ofNat 8 (51 * v / 20), false⟩ := by
  rw [cvt_of_legal (outOfDomain_eq_false.mpr ⟨hh, Nat.zero_le 100, hv⟩), channels_zero_saturation]

theorem cvt_zero_value {h s : Nat} (hh : h ≤ 360) (hs : s ≤ 100) : cvt h s 0 = ⟨0#8, 0#8, 0#8, false⟩ := by
  rw [cvt_of_legal (outOfDomain_eq_false.mpr ⟨hh, hs, Nat.zero_le 100⟩), channels_zero_value]

/-- Settles O5: with equal components the order of the sector does not matter. -/
theorem grayAndBlackColors : Obligations.GrayAndBlackColors :=
  ⟨fun f v => chanQ_zero_saturation v f, fun _ _ => cvt_zero_saturation, fun _ _ => cvt_zero_value⟩

/-- Settles O6: the primaries are computed; white is a gray and off is black. -/
theorem roundTripSanityColors : Obligations.RoundTripSanityColors :=
  ⟨by decide, by decide, by decide, cvt_zero_saturation (by decide) le_rfl, cvt_zero_value (by decide) (by decide)⟩

/-! ### The source's rational definition (40_color_convert.md R143 to R149) -/

/-- `(h / 60) mod 2` is `(h mod 120) / 60` (R145). -/
theorem ratMod2_div_sixty (h : Nat) : ratMod2 ((h : ℚ) / 60) = ((h % 120 : ℕ) : ℚ) / 60 := by
  have hfloor : ⌊(h : ℚ) / 60 / 2⌋ = ((h / 120 : ℕ) : ℤ) := by
    rw [div_div]
    exact_mod_cast Rat.floor_natCast_div_natCast h 120
  have hsplit : (h : ℚ) = 120 * (h / 120 : ℕ) + (h % 120 : ℕ) := by
    exact_mod_cast (Nat.div_add_mod h 120).symm
  rw [ratMod2, hfloor, Int.cast_natCast]
  linarith

/-- `F` rises over the first half of each 120 degrees and falls over the second. -/
theorem fold_eq_mod {h : Nat} (hh : h ≤ 360) : fold h = if h % 120 ≤ 60 then h % 120 else 120 - h % 120 := by
  unfold fold sector
  split <;> split <;> omega

/-- The intermediate of the source is `x = c * F / 60` (R145). -/
theorem srcX_eq_chroma_mul_fold {h : Nat} (hh : h ≤ 360) (s v : Nat) :
    srcX h s v = srcChroma s v * ((fold h : ℚ) / 60) := by
  rw [srcX, ratMod2_div_sixty, fold_eq_mod hh]
  congr 1
  split
  case isTrue hrise =>
    have hq : ((h % 120 : ℕ) : ℚ) ≤ 60 := by exact_mod_cast hrise
    rw [abs_of_nonpos (by linarith)]
    ring
  case isFalse hfall =>
    have hq : (60 : ℚ) ≤ (h % 120 : ℕ) := by exact_mod_cast (not_le.mp hfall).le
    rw [abs_of_nonneg (by linarith), Nat.cast_sub (Nat.mod_lt h (by decide)).le]
    push_cast
    ring

/-- The value of a channel whose component is the part `f / 60` of the chroma, before the floor (R149). -/
theorem chroma_part_scaled (v : Nat) {s : Nat} (hs : s ≤ 100) (f : Nat) :
    (srcChroma s v * ((f : ℚ) / 60) + srcOffset s v) * 255 =
      ((17 * v * (s * f + 6000 - 60 * s) : ℕ) : ℚ) / 40000 := by
  have hle : 60 * s ≤ s * f + 6000 := by omega
  rw [srcOffset, srcChroma, srcValue, Nat.cast_mul, Nat.cast_sub hle]
  push_cast
  ring

/-- A channel of the source, by what it is before the floor, is the integer `Q(f)`. -/
theorem srcChannel_eq_chanQ {comp m : ℚ} {s v f : Nat}
    (h : (comp + m) * 255 = ((17 * v * (s * f + 6000 - 60 * s) : ℕ) : ℚ) / 40000) :
    srcChannel comp m = (chanQ s v f : ℤ) := by
  rw [srcChannel, h, chanQ, Int.natCast_div]
  exact Rat.floor_natCast_div_natCast _ 40000

/-- The sector by the intervals of the source (R147). -/
theorem sector_eq_ite (h : Nat) :
    sector h =
      if h < 60 then 0 else if h < 120 then 1 else if h < 180 then 2 else if h < 240 then 3
      else if h < 300 then 4 else 5 := by
  unfold sector
  split_ifs <;> omega

/-- The source orders the floors of c, x and 0 as `arrange` orders C, X and Z. -/
theorem srcChannels_eq_arrange {h s v C X Z : Nat} (hc : srcChannel (srcChroma s v) (srcOffset s v) = C)
    (hx : srcChannel (srcX h s v) (srcOffset s v) = X) (hz : srcChannel 0 (srcOffset s v) = Z) :
    srcChannels h s v =
      (((arrange (sector h) C X Z).1 : ℤ), ((arrange (sector h) C X Z).2.1 : ℤ),
        ((arrange (sector h) C X Z).2.2 : ℤ)) := by
  rw [sector_eq_ite, srcChannels, srcTriple]
  split_ifs <;> simp only [arrange, hc, hx, hz]

/-- Settles O2: the components are the parts 60/60, F/60 and 0/60 of the chroma; the floors of their values are `Q`, in
the same order. -/
theorem cvtEqualsSourceDefinition : Obligations.CvtEqualsSourceDefinition := by
  intro h s v hh hs hv
  have hc := chroma_part_scaled v hs 60
  have hx := chroma_part_scaled v hs (fold h)
  have hz := chroma_part_scaled v hs 0
  rw [Nat.cast_ofNat, div_self (by norm_num), mul_one] at hc
  rw [← srcX_eq_chroma_mul_fold hh] at hx
  rw [Nat.cast_zero, zero_div, mul_zero] at hz
  refine ⟨hc, hx, hz, fun f hf => ?_, ?_⟩
  · exact Nat.mul_le_mul (by omega : 17 * v ≤ 1700) (chromaFactor_le hf)
  · exact srcChannels_eq_arrange (srcChannel_eq_chanQ hc) (srcChannel_eq_chanQ hx) (srcChannel_eq_chanQ hz)

end Sys2Proof.Machine
end

section
/-! PROOFS. PACK's fields, the slots of ENC's frame, their count and their length, the two pulse pairs
(41_frame_encode.md). -/

namespace Sys2Proof.Machine

/-! ### The colour word (41_frame_encode.md R190, R191) -/

/-- PACK's shifts and ORs put the three channels side by side (R190). -/
theorem packWord_eq_append (r g b : Byte) : packWord r g b = r ++ g ++ b := by
  rw [← BitVec.setWidth_eq (r ++ g ++ b), BitVec.setWidth_append_append_eq_shiftLeft_setWidth_or, packWord]

theorem packWord_toNat (r g b : Byte) : (packWord r g b).toNat = r.toNat * 65536 + g.toNat * 256 + b.toNat := by
  rw [packWord_eq_append, toNat_append_eq_mul_add, toNat_append_eq_mul_add]
  omega

@[simp] theorem packWord_red (r g b : Byte) : (packWord r g b).extractLsb' 16 8 = r := by
  rw [packWord_eq_append, BitVec.extractLsb'_append_eq_of_le (by decide)]
  exact BitVec.extractLsb'_append_eq_left

@[simp] theorem packWord_green (r g b : Byte) : (packWord r g b).extractLsb' 8 8 = g := by
  rw [packWord_eq_append, BitVec.extractLsb'_append_eq_of_le le_rfl]
  exact BitVec.extractLsb'_append_eq_right

@[simp] theorem packWord_blue (r g b : Byte) : (packWord r g b).extractLsb' 0 8 = b := by
  rw [packWord_eq_append]
  exact BitVec.extractLsb'_append_eq_right

/-- The three fields of a colour word pack to that word (R191). -/
@[simp] theorem packWord_fields (w : ColorWord) :
    packWord (w.extractLsb' 16 8) (w.extractLsb' 8 8) (w.extractLsb' 0 8) = w := by
  rw [packWord_eq_append, BitVec.extractLsb'_append_extractLsb'_eq_extractLsb' (start₂ := 16) (start₁ := 8) rfl,
    BitVec.extractLsb'_append_extractLsb'_eq_extractLsb' (start₂ := 8) (start₁ := 0) rfl]
  exact BitVec.extractLsb'_eq_self

/-- Reading the three fields undoes PACK on both sides. -/
theorem packWord_bijective : Function.Bijective (fun q : Byte × Byte × Byte => packWord q.1 q.2.1 q.2.2) := by
  refine Function.bijective_iff_has_inverse.mpr
    ⟨fun w => (w.extractLsb' 16 8, w.extractLsb' 8 8, w.extractLsb' 0 8), ?_, packWord_fields⟩
  rintro ⟨r, g, b⟩
  simp only [packWord_red, packWord_green, packWord_blue]

theorem exec_pack (r g b : Byte) (s : State) :
    exec (.pack r g b) s = .next { s with units := { s.units with word := packWord r g b } } := rfl

/-- Settles O7: the word is the three channels side by side, so its number and its fields are theirs, and the fields
give back the triple. -/
theorem packPlacesChannelsBijectively : Obligations.PackPlacesChannelsBijectively := by
  refine ⟨fun r g b s => ⟨packWord r g b, s.units.frame, exec_pack r g b s, packWord_toNat r g b, ?_⟩,
    packWord_bijective⟩
  exact ⟨packWord_red r g b, packWord_green r g b, packWord_blue r g b⟩

/-! ### The slots of ENC's frame (41_frame_encode.md R192) -/

/-- ENC's loop from bit `p - 1` down has written the slots from `24 - p` on, each with its bit, and no other. -/
theorem frameRead_encLoop (w : ColorWord) (i : Fin 24) : ∀ {p : Nat} {f : Frame}, p ≤ 24 → f.length = 24 →
    frameRead (encLoop w p f) i = if 24 - p ≤ i.val then some (slotSym w i) else frameRead f i
  | 0, f, _, _ => by rw [encLoop, if_neg (by omega)]
  | p + 1, f, hp, hf => by
    rw [encLoop, frameRead_encLoop w i (by omega) (by rw [frameWrite_length, hf])]
    rcases eq_or_ne i ⟨23 - p, by omega⟩ with rfl | hne
    · have hbit : 23 - (23 - p) = p := by omega
      rw [if_neg (by simp only; omega), if_pos (by simp only; omega), frameRead_frameWrite_self hf, slotSym, hbit]
    · have hval : i.val ≠ 23 - p := fun h => hne (Fin.ext h)
      rw [frameRead_frameWrite_ne hne]
      exact if_congr (by omega) rfl rfl

@[simp] theorem offFrame_length : offFrame.length = 24 := List.length_replicate

/-- `Frame[i] = W[23 - i]` (R192). -/
theorem frameRead_encFrame (w : ColorWord) (i : Fin 24) : frameRead (encFrame w) i = some (slotSym w i) := by
  rw [encFrame, frameRead_encLoop w i le_rfl offFrame_length, if_pos (by omega)]

theorem exec_enc (w : ColorWord) (s : State) :
    exec (.enc w) s = .next { s with units := { s.units with frame := encFrame w } } := rfl

/-- Settles O8: the loop writes every slot with the bit of its place. -/
theorem encPlacesEachBit : Obligations.EncPlacesEachBit := fun w s =>
  ⟨encFrame w, s.units.pulse, s.units.word, exec_enc w s, encFrame_length w, frameRead_encFrame w⟩

/-! ### The ones of a frame (41_frame_encode.md R197) -/

/-- ENC's frame as a list, slot 0 first. -/
theorem encFrame_eq_map (w : ColorWord) :
    encFrame w = (List.range 24).map (fun i => symOfBit (w.getLsbD (23 - i))) := by
  refine List.ext_getElem (by simp) fun i hi _ => ?_
  have hslot := frameRead_encFrame w ⟨i, encFrame_length w ▸ hi⟩
  rw [frameRead, List.getElem?_eq_getElem hi, Option.some_inj] at hslot
  rw [List.getElem_map, List.getElem_range, hslot, slotSym]

@[simp] theorem symOfBit_eq_one {b : Bool} : symOfBit b = .one ↔ b = true := by
  cases b <;> decide

/-- The bits counted from bit 23 down, in the order of the slots, are as many as from bit 0 up. -/
theorem popcount_eq_countP_slots (w : ColorWord) :
    popcount w = (List.range 24).countP (fun i => w.getLsbD (23 - i)) := by
  have hrev : (List.range 24).reverse = (List.range 24).map (fun i => 23 - i) := by decide
  rw [popcount, ← List.countP_reverse, hrev, List.countP_map]
  rfl

/-- The ONE slots of ENC's frame, counted as symbols. -/
theorem encFrame_count_one (w : ColorWord) : (encFrame w).count .one = popcount w := by
  rw [encFrame_eq_map, List.count, List.countP_map, popcount_eq_countP_slots]
  refine List.countP_congr fun i _ => ?_
  rw [Function.comp_apply, beq_iff_eq, symOfBit_eq_one]

/-- Settles O9: slot i is ONE exactly where its bit is 1, and the slots run through all the bits. -/
theorem oneSlotsCountSetBits : Obligations.OneSlotsCountSetBits := encFrame_count_one

/-! ### The length of a frame (41_frame_encode.md R198) -/

/-- A sum over a frame, by how many slots hold each symbol. -/
theorem sum_map_sym (g : Sym → Nat) (f : Frame) :
    (f.map g).sum = f.count .one * g .one + (f.length - f.count .one) * g .zero := by
  induction f with
  | nil => simp
  | cons x xs ih =>
    rw [List.map_cons, List.sum_cons, ih, List.length_cons]
    cases x with
    | one =>
      rw [List.count_cons_self, Nat.add_sub_add_right]
      ring
    | zero =>
      have hle : xs.count Sym.one ≤ xs.length := List.count_le_length
      rw [List.count_cons_of_ne (by decide), Nat.sub_add_comm hle]
      ring

/-- A sum over ENC's frame, by the number of ones of its word. -/
theorem encFrame_sum (g : Sym → Nat) (w : ColorWord) :
    ((encFrame w).map g).sum = popcount w * g .one + (24 - popcount w) * g .zero := by
  rw [sum_map_sym, encFrame_count_one, encFrame_length]

theorem popcount_le (w : ColorWord) : popcount w ≤ 24 :=
  List.countP_le_length.trans_eq List.length_range

theorem slotTicks_eq_sum (c : Cfg) (w : ColorWord) (n : Nat) :
    slotTicks c w n =
      ((List.range n).map (fun i => highTicks c (symOfBit (w.getLsbD (23 - i)))
        + lowTicks c (symOfBit (w.getLsbD (23 - i))))).sum := by
  induction n with
  | zero => rfl
  | succ n ih => rw [slotTicks, ih, List.sum_range_succ, Nat.add_assoc]

/-- The 24 slots that PTX sends last as long as the symbols of ENC's frame. -/
theorem slotTicks_eq_encFrame_sum (c : Cfg) (w : ColorWord) :
    slotTicks c w 24 = ((encFrame w).map (fun x => highTicks c x + lowTicks c x)).sum := by
  rw [slotTicks_eq_sum, encFrame_eq_map, List.map_map]
  rfl

/-- Settles O10: both lengths are sums over ENC's frame, whose ones are counted by popcount. -/
theorem frameLengthByPopcount : Obligations.FrameLengthByPopcount := by
  intro c w
  have hle := popcount_le w
  refine ⟨?_, by omega, by omega, ?_, rfl⟩
  · rw [encFrame_sum, if_pos rfl, if_neg (by decide), Nat.mul_comm, Nat.mul_comm (24 - popcount w)]
  · rw [slotTicks_eq_encFrame_sum]
    exact encFrame_sum _ w

/-! ### The pulse pairs (41_frame_encode.md R194, R195) -/

/-- `ticks` in the order of 00_scope.md R12. -/
theorem ticks_eq (c : Cfg) (ns : Nat) : ticks c ns = (ns * c.clkHz + 500000000) / 1000000000 := by
  rw [ticks, Nat.add_comm]

theorem exec_sym1 (s : State) :
    exec .sym1 s = .next { s with units := { s.units with pulse := ⟨ticks s.cfg 700, ticks s.cfg 600⟩ } } := rfl

theorem exec_sym0 (s : State) :
    exec .sym0 s = .next { s with units := { s.units with pulse := ⟨ticks s.cfg 350, ticks s.cfg 800⟩ } } := rfl

/-- Settles O11: the pulse pairs are tick counts, and those are R12's. -/
theorem symbolPulsePairs : Obligations.SymbolPulsePairs := by
  intro s
  simp only [exec_sym1, exec_sym0, ticks_eq, and_self]

end Sys2Proof.Machine
end

section
/-! PROOFS. PTX: its tick counts, TX.IDLE, TX.START and the high part of TX.RUN (42_pulse_transmit.md). -/

namespace Sys2Proof.Machine

/-! ### The rounding of the tick counts (42_pulse_transmit.md R232) -/

/-- A tick count is off by at most half a clock period, in units of `1 / (1000000000 * CLK_HZ)` seconds. -/
theorem ticks_error_le (c : Cfg) (ns : Nat) :
    2 * |(ticks c ns : ℤ) * 1000000000 - (ns * c.clkHz : ℕ)| ≤ 1000000000 := by
  rw [ticks]
  generalize ns * c.clkHz = exact
  have hbound : |((500000000 + exact) / 1000000000 : ℕ) * 1000000000 - (exact : ℤ)| ≤ 500000000 :=
    abs_le.mpr ⟨by omega, by omega⟩
  omega

/-- Rounding loses nothing just where the duration is a whole number of clock periods. -/
theorem ticks_exact_iff (c : Cfg) (ns : Nat) :
    ticks c ns * 1000000000 = ns * c.clkHz ↔ 1000000000 ∣ ns * c.clkHz := by
  rw [ticks]
  generalize ns * c.clkHz = exact
  omega

/-- Settles O12: 350 ns is `7 * CLK_HZ / 20000000` periods, a whole number only for a multiple of 20 MHz as 7 and 20000000
are coprime; and a period of 50 ns divides all four durations. -/
theorem ticksRoundToNearest : Obligations.TicksRoundToNearest := by
  refine ⟨ticks_error_le, fun c => ?_⟩
  simp only [t1h, t1l, t0h, t0l, ticks_exact_iff]
  constructor
  · rintro ⟨-, -, h350, -⟩
    omega
  · intro hclk
    refine ⟨?_, ?_, ?_, ?_⟩ <;> omega

/-! ### The start of a frame (42_pulse_transmit.md R221, R222) -/

theorem exec_txIdle (fault : Bool) (s : State) : exec (.txIdle fault) s = .next { s with ptx := ptxIdle s.ptx } := rfl

/-- Settles O13: the effect is `ptxIdle`, which sets those three registers. -/
theorem txIdleClearsTheReport : Obligations.TxIdleClearsTheReport := fun fault s => by
  rw [exec_txIdle, ptxIdle]

theorem exec_txStart (fault : Bool) (s : State) :
    exec (.txStart fault) s = .next { s with
      ptx := {
        word := s.fsm.wordR, slot := 0, phase := .hi, cnt := 0, busy := true, dout := true, done := false,
        err := false } } := rfl

/-- Settles O14. -/
theorem txStartLatchesTheWord : Obligations.TxStartLatchesTheWord := exec_txStart

/-! ### The high part (42_pulse_transmit.md R223, R225) -/

/-- The end of a count as the spec writes it, `cnt = T - 1` in exact integers, and as the model tests it. -/
theorem cast_eq_cast_sub_one_iff {cnt T : Nat} : (cnt : ℤ) = (T : ℤ) - 1 ↔ cnt + 1 = T := by omega

/-- `TH` by the bit in flight (R223). -/
theorem thInFlight_eq_ite (s : State) :
    thInFlight s = if s.ptx.word.getLsbD (23 - s.ptx.slot.val) then t1h s.cfg else t0h s.cfg := by
  rw [thInFlight, symInFlight, slotSym]
  cases s.ptx.word.getLsbD (23 - s.ptx.slot.val) <;> rfl

theorem exec_txRun_of_hi {s : State} (hp : s.ptx.phase = .hi) (start : Bool) :
    exec (.txRun start) s = .next (runHi s) := by
  rw [exec, execTxRun, hp]

theorem enterPhase_self_slot (ph : PtxPhase) (d : Bool) (s : State) :
    enterPhase ph s.ptx.slot d s = { s with ptx := { s.ptx with phase := ph, cnt := 0, dout := d } } := rfl

theorem countTick_eq (d : Bool) (s : State) :
    countTick d s = { s with ptx := { s.ptx with cnt := s.ptx.cnt + 1, dout := d } } := rfl

/-- Settles O15: `runHi` tests the end of TH, and its two branches are the rule's. -/
theorem txRunHighPart : Obligations.TxRunHighPart := by
  intro start s hp TH
  have hTH : TH = thInFlight s := (thInFlight_eq_ite s).symm
  rw [exec_txRun_of_hi hp, runHi, enterPhase_self_slot, countTick_eq, hTH]
  exact congrArg _ (if_congr cast_eq_cast_sub_one_iff.symm rfl rfl)

end Sys2Proof.Machine
end

section
/-! PROOFS. The poll operations PRESS, HOLD and RELEASE, what a run of samples does to PState and to the commands, and the
edge in FATAL (43_input_fsm.md). -/

namespace Sys2Proof.Machine

/-! ### PState after the shared operations (10_state.md R52) -/

@[simp] theorem raiseErr_pstate (c : ErrCode) (s : State) :
    pstate (raiseErr c s) = ⟨s.fsm.scene, s.fsm.dstate, true, c⟩ := rfl
@[simp] theorem emitCmd_pstate (r : CmdResult) (s : State) : pstate (emitCmd r s) = pstate s := rfl
@[simp] theorem passEdges_pstate (s : State) : pstate (passEdges s) = pstate s := rfl
@[simp] theorem showFrame_pstate (w : ColorWord) (s : State) : pstate (showFrame w s) = pstate s := rfl
@[simp] theorem sleepThrough_pstate (s : State) : pstate (sleepThrough s) = pstate s := rfl
@[simp] theorem advanceScene_pstate (s : State) :
    pstate (advanceScene s) = { pstate s with scene := s.fsm.scene ^^^ 1#1, dstate := .handled } := rfl
@[simp] theorem rearm_pstate (s : State) : pstate (rearm s) = { pstate s with dstate := .idle } := rfl

theorem pstate_eq_iff_of_not_fatal {s : State} {n : BitVec 1} {d : DState} {e : ErrCode} :
    pstate s = ⟨n, d, false, e⟩ ↔
      s.fsm.scene = n ∧ s.fsm.dstate = d ∧ s.fsm.phase ≠ .fatal ∧ s.fsm.errCode = e := by
  rw [pstate, PState.mk.injEq, fatalFlag_eq_false]

theorem pstate_of_not_fatal {s : State} (hp : s.fsm.phase ≠ .fatal) :
    pstate s = ⟨s.fsm.scene, s.fsm.dstate, false, s.fsm.errCode⟩ :=
  pstate_eq_iff_of_not_fatal.mpr ⟨rfl, rfl, hp, rfl⟩

/-! ### POLL.PRESS (43_input_fsm.md R281) -/

/-- The current entry is out of domain just where CVT says so (40_color_convert.md R141). -/
theorem entryColor_invalid (s : State) :
    (entryColor s).invalid = outOfDomain (currentEntry s).h (currentEntry s).s (currentEntry s).v :=
  cvt_invalid _ _ _

/-- The command of a press is that of the scene before the cycle. -/
@[simp] theorem sceneIdField_showFrame_passEdges (w : ColorWord) (s : State) :
    sceneIdField (showFrame w (passEdges s)) = sceneIdField s :=
  sceneIdField_congr rfl rfl

@[simp] theorem dimmingField_showFrame_passEdges (w : ColorWord) (s : State) :
    dimmingField (showFrame w (passEdges s)) = dimmingField s :=
  dimmingField_congr rfl rfl

theorem sendCommand_of_err {s : State} (hr : s.ans.cmdr = .err) :
    sendCommand s = raiseErr .transportError (emitCmd .err s) := by
  rw [sendCommand, hr]

theorem sendCommand_of_ok {s : State} (hr : s.ans.cmdr = .ok) :
    sendCommand s = sleepThrough (advanceScene (emitCmd .ok s)) := by
  rw [sendCommand, hr]

theorem exec_pollPress_of_invalid {s : State} (hv : (entryColor s).invalid = true) :
    exec .pollPress s = .next (raiseErr .invalidColorInput (passEdges s)) := by
  rw [exec, execPollPress, if_pos hv]

theorem exec_pollPress_of_txFault {s : State} (hv : (entryColor s).invalid = false) (hx : s.ans.txr = .fault) :
    exec .pollPress s = .next (raiseErr .peripheralError (showFrame (feedbackWord s) (passEdges s))) := by
  rw [exec, execPollPress, if_neg (Bool.eq_false_iff.mp hv), hx]

theorem exec_pollPress_of_txOk {s : State} (hv : (entryColor s).invalid = false) (hx : s.ans.txr = .ok) :
    exec .pollPress s = .next (sendCommand (showFrame (feedbackWord s) (passEdges s))) := by
  rw [exec, execPollPress, if_neg (Bool.eq_false_iff.mp hv), hx]

section
variable {s t : State} (h : exec .pollPress s = .next t)
include h

/-- A press of a colour out of domain. -/
theorem pollPress_of_invalid (hv : (entryColor s).invalid = true) :
    pstate t = ⟨s.fsm.scene, s.fsm.dstate, true, .invalidColorInput⟩ ∧
      t.trace = s.trace ++ [.fatal .invalidColorInput] := by
  cases (exec_pollPress_of_invalid hv).symm.trans h
  exact ⟨rfl, rfl⟩

/-- A press whose frame is faulted. -/
theorem pollPress_of_txFault (hv : (entryColor s).invalid = false) (hx : s.ans.txr = .fault) :
    pstate t = ⟨s.fsm.scene, s.fsm.dstate, true, .peripheralError⟩ ∧
      t.trace = s.trace ++ [.frame (feedbackWord s) .fault, .fatal .peripheralError] := by
  cases (exec_pollPress_of_txFault hv hx).symm.trans h
  simp [hx]

/-- A press whose command fails. -/
theorem pollPress_of_cmdErr (hv : (entryColor s).invalid = false) (ha : s.ans = ⟨.ok, .err⟩) :
    pstate t = ⟨s.fsm.scene, s.fsm.dstate, true, .transportError⟩ ∧
      t.trace = s.trace ++ [.frame (feedbackWord s) .ok,
        .cmd s.fsm.scene (sceneIdField s) (dimmingField s) .err, .fatal .transportError] := by
  cases (exec_pollPress_of_txOk hv (by rw [ha])).symm.trans h
  rw [sendCommand_of_err (by rw [showFrame_ans, passEdges_ans, ha])]
  simp [ha]

/-- A press without an error. -/
theorem pollPress_of_ok (hp : s.fsm.phase ≠ .fatal) (hv : (entryColor s).invalid = false) (ha : s.ans = ⟨.ok, .ok⟩) :
    pstate t = ⟨s.fsm.scene ^^^ 1#1, .handled, false, s.fsm.errCode⟩ ∧
      t.trace = s.trace ++ [.frame (feedbackWord s) .ok,
        .cmd s.fsm.scene (sceneIdField s) (dimmingField s) .ok] := by
  cases (exec_pollPress_of_txOk hv (by rw [ha])).symm.trans h
  rw [sendCommand_of_ok (by rw [showFrame_ans, passEdges_ans, ha])]
  simp [ha, pstate_of_not_fatal hp]

end

/-- Settles O22: the entry's domain, the frame's outcome and the command's answer decide in turn, and each of the four
outcomes has its lemma. -/
theorem pressShowsSendsAndAdvances : Obligations.PressShowsSendsAndAdvances := by
  intro s hp n e o W C
  have hdomain : e.h ≤ 360 → e.s ≤ 100 → e.v ≤ 100 → (entryColor s).invalid = false :=
    fun hh hs hv => cvt_invalid_of_legal hh hs hv
  obtain ⟨t, h⟩ := exec_completes .pollPress s
  refine ⟨t, h, ?_, ?_, ?_, ?_⟩
  · exact fun hout => pollPress_of_invalid h ((entryColor_invalid s).trans (outOfDomain_eq_true.mpr hout))
  · exact fun hh hs hv hx => pollPress_of_txFault h (hdomain hh hs hv) hx
  · exact fun hh hs hv ha => pollPress_of_cmdErr h (hdomain hh hs hv) ha
  · exact fun hh hs hv ha => pollPress_of_ok h hp (hdomain hh hs hv) ha

/-! ### POLL.HOLD (43_input_fsm.md R284) -/

theorem exec_pollHold (s : State) : exec .pollHold s = .next (sleepThrough (passEdges s)) := rfl

/-- Settles O23: a hold is its cycle's edges and its sleep, and neither writes PState or the trace. -/
theorem holdChangesNothing : Obligations.HoldChangesNothing := fun s =>
  ⟨_, exec_pollHold s, by rw [sleepThrough_pstate, passEdges_pstate], by rw [sleepThrough_trace, passEdges_trace]⟩

/-! ### POLL.RELEASE (43_input_fsm.md R285) -/

theorem exec_pollRelease_of_txOk {s : State} (hm : s.cfg.releaseMode = .level ∨ s.fsm.dstate = .handled)
    (hx : s.ans.txr = .ok) (d : DState) :
    exec (.pollRelease d) s = .next (sleepThrough (rearm (showFrame offWord (passEdges s)))) := by
  rw [exec, execPollRelease, if_pos hm, hx]

theorem exec_pollRelease_of_txFault {s : State} (hm : s.cfg.releaseMode = .level ∨ s.fsm.dstate = .handled)
    (hx : s.ans.txr = .fault) (d : DState) :
    exec (.pollRelease d) s = .next (raiseErr .peripheralError (showFrame offWord (passEdges s))) := by
  rw [exec, execPollRelease, if_pos hm, hx]

theorem exec_pollRelease_of_quiet {s : State} (hm : ¬(s.cfg.releaseMode = .level ∨ s.fsm.dstate = .handled))
    (d : DState) : exec (.pollRelease d) s = .next (sleepThrough (passEdges s)) := by
  rw [exec, execPollRelease, if_neg hm]

section
variable {d : DState} {s t : State} (h : exec (.pollRelease d) s = .next t)
include h

/-- A release that turns the feedback off. -/
theorem pollRelease_of_txOk (hm : s.cfg.releaseMode = .level ∨ s.fsm.dstate = .handled) (hx : s.ans.txr = .ok) :
    pstate t = { pstate s with dstate := .idle } ∧ t.trace = s.trace ++ [.frame offWord .ok] := by
  cases (exec_pollRelease_of_txOk hm hx d).symm.trans h
  simp [hx]

/-- A release whose off frame is faulted. -/
theorem pollRelease_of_txFault (hm : s.cfg.releaseMode = .level ∨ s.fsm.dstate = .handled) (hx : s.ans.txr = .fault) :
    pstate t = ⟨s.fsm.scene, s.fsm.dstate, true, .peripheralError⟩ ∧
      t.trace = s.trace ++ [.frame offWord .fault, .fatal .peripheralError] := by
  cases (exec_pollRelease_of_txFault hm hx d).symm.trans h
  simp [hx]

/-- A release with nothing to do. -/
theorem pollRelease_of_quiet (hm : ¬(s.cfg.releaseMode = .level ∨ s.fsm.dstate = .handled)) :
    pstate t = pstate s ∧ t.trace = s.trace := by
  cases (exec_pollRelease_of_quiet hm d).symm.trans h
  exact ⟨rfl, rfl⟩

end

/-- Settles O24: the mode and `dstate` decide whether there is an off frame, and its outcome decides the rest. -/
theorem releaseTurnsOffAndRearms : Obligations.ReleaseTurnsOffAndRearms := by
  intro d s
  obtain ⟨t, h⟩ := exec_completes (.pollRelease d) s
  exact ⟨t, h, pollRelease_of_txOk h, pollRelease_of_txFault h,
    fun hmode hd => pollRelease_of_quiet h (by simp [hmode, hd])⟩

/-! ### One sample of a run with every outcome ok (43_input_fsm.md R298) -/

section
variable {s t : State} {n : BitVec 1} {e : ErrCode}

theorem pollStep_keeps_cfg {lvl : Bool} {txr : TxResult} {cmdr : CmdResult}
    (h : pollStep lvl txr cmdr s = .next t) : t.cfg = s.cfg := by
  rw [pollStep] at h
  exact (exec_keeps_cfg h :)

theorem entryColor_invalid_of_cfgLegal (hc : cfgLegal s.cfg = true) : (entryColor s).invalid = false := by
  obtain ⟨hh, hs, hv, -⟩ := entryLegal_iff.mp (sceneEntry_legal hc s.fsm.scene)
  exact cvt_invalid_of_legal hh hs hv

/-- A low sample of an unhandled press is a press. -/
theorem pollStep_press (hc : cfgLegal s.cfg = true) (hs : pstate s = ⟨n, .idle, false, e⟩)
    (h : pollStep false .ok .ok s = .next t) :
    pstate t = ⟨n ^^^ 1#1, .handled, false, e⟩ ∧
      t.trace = s.trace ++ [.frame (feedbackWord s) .ok, .cmd n (sceneIdField s) (dimmingField s) .ok] := by
  obtain ⟨rfl, hd, hp, rfl⟩ := pstate_eq_iff_of_not_fatal.mp hs
  rw [pollStep, pollSelected_eq_pollPress hp hd] at h
  exact pollPress_of_ok (s := { s with ans := ⟨.ok, .ok⟩ }) h hp (entryColor_invalid_of_cfgLegal hc) rfl

/-- A low sample of a handled press is a hold. -/
theorem pollStep_hold (hs : pstate s = ⟨n, .handled, false, e⟩) (h : pollStep false .ok .ok s = .next t) :
    pstate t = pstate s ∧ t.trace = s.trace := by
  obtain ⟨-, hd, hp, -⟩ := pstate_eq_iff_of_not_fatal.mp hs
  rw [pollStep, pollSelected_eq_pollHold hp hd, exec_pollHold] at h
  cases h
  exact ⟨rfl, rfl⟩

/-- A high sample leaves IDLE behind in either release mode, and no command. -/
theorem pollStep_release {d : DState} (hs : pstate s = ⟨n, d, false, e⟩) (h : pollStep true .ok .ok s = .next t) :
    pstate t = ⟨n, .idle, false, e⟩ ∧ t.trace.countP isCmd = s.trace.countP isCmd := by
  obtain ⟨-, hd, hp, -⟩ := pstate_eq_iff_of_not_fatal.mp hs
  rw [pollStep, pollSelected_eq_pollRelease hp] at h
  by_cases hm : s.cfg.releaseMode = .level ∨ s.fsm.dstate = .handled
  · obtain ⟨hstate, htrace⟩ := pollRelease_of_txOk h hm rfl
    refine ⟨hstate.trans (congrArg (fun q : PState => { q with dstate := .idle }) hs), ?_⟩
    rw [htrace, List.countP_append]
    rfl
  · obtain ⟨hstate, htrace⟩ := pollRelease_of_quiet h hm
    have hidle : d = .idle := by
      cases d with
      | idle => rfl
      | handled => exact absurd (.inr hd) hm
    rw [hidle] at hs
    exact ⟨hstate.trans hs, congrArg _ htrace⟩

end

/-! ### Runs of samples (43_input_fsm.md R298) -/

theorem pollRun_cons_of_next {l : Bool} {ls : List Bool} {s t : State} (h : pollStep l .ok .ok s = .next t) :
    pollRun (l :: ls) s = pollRun ls t := by
  rw [pollRun, h]

theorem pollRun_completes (ls : List Bool) (s : State) : ∃ t, pollRun ls s = .next t := by
  induction ls generalizing s with
  | nil => exact ⟨s, rfl⟩
  | cons l ls ih =>
    obtain ⟨u, hu⟩ : ∃ u, pollStep l .ok .ok s = .next u := exec_completes _ _
    rw [pollRun_cons_of_next hu]
    exact ih u

/-- A run is its first sample and then the run of the others. -/
theorem pollRun_cons_cases {l : Bool} {ls : List Bool} {s t : State} (h : pollRun (l :: ls) s = .next t) :
    ∃ u, pollStep l .ok .ok s = .next u ∧ pollRun ls u = .next t := by
  obtain ⟨u, hu⟩ : ∃ u, pollStep l .ok .ok s = .next u := exec_completes _ _
  exact ⟨u, hu, pollRun_cons_of_next hu ▸ h⟩

theorem pollRun_append_cases {ks ls : List Bool} {s t : State} (h : pollRun (ks ++ ls) s = .next t) :
    ∃ u, pollRun ks s = .next u ∧ pollRun ls u = .next t := by
  induction ks generalizing s with
  | nil => exact ⟨s, rfl, h⟩
  | cons k ks ih =>
    obtain ⟨v, hv, hrest⟩ := pollRun_cons_cases h
    obtain ⟨u, hu, hlast⟩ := ih hrest
    exact ⟨u, (pollRun_cons_of_next hv).trans hu, hlast⟩

theorem pollRun_keeps_cfg {ls : List Bool} {s t : State} (h : pollRun ls s = .next t) : t.cfg = s.cfg := by
  induction ls generalizing s with
  | nil =>
    cases h
    rfl
  | cons l ls ih =>
    obtain ⟨u, hu, hrest⟩ := pollRun_cons_cases h
    exact (ih hrest).trans (pollStep_keeps_cfg hu)

section
variable {s t : State} {n : BitVec 1} {e : ErrCode}

/-- Holding on changes nothing, however long. -/
theorem pollRun_hold {k : Nat} (hs : pstate s = ⟨n, .handled, false, e⟩)
    (h : pollRun (List.replicate k false) s = .next t) : pstate t = pstate s ∧ t.trace = s.trace := by
  induction k generalizing s with
  | zero =>
    cases h
    exact ⟨rfl, rfl⟩
  | succ k ih =>
    obtain ⟨u, hu, hrest⟩ := pollRun_cons_cases h
    obtain ⟨hstate, htrace⟩ := pollStep_hold hs hu
    obtain ⟨hstate', htrace'⟩ := ih (hstate.trans hs) hrest
    exact ⟨hstate'.trans hstate, htrace'.trans htrace⟩

/-- Debounce: one press, and then holds. -/
theorem pollRun_press {k : Nat} (hc : cfgLegal s.cfg = true) (hs : pstate s = ⟨n, .idle, false, e⟩)
    (h : pollRun (List.replicate (k + 1) false) s = .next t) :
    pstate t = ⟨n ^^^ 1#1, .handled, false, e⟩ ∧
      t.trace = s.trace ++ [.frame (feedbackWord s) .ok, .cmd n (sceneIdField s) (dimmingField s) .ok] := by
  obtain ⟨u, hu, hrest⟩ := pollRun_cons_cases h
  obtain ⟨hstate, htrace⟩ := pollStep_press hc hs hu
  obtain ⟨hstate', htrace'⟩ := pollRun_hold hstate hrest
  exact ⟨hstate'.trans hstate, htrace'.trans htrace⟩

/-- A release of any length ends in IDLE and sends no command. -/
theorem pollRun_release {k : Nat} {d : DState} (hs : pstate s = ⟨n, d, false, e⟩)
    (h : pollRun (List.replicate (k + 1) true) s = .next t) :
    pstate t = ⟨n, .idle, false, e⟩ ∧ t.trace.countP isCmd = s.trace.countP isCmd := by
  induction k generalizing s d with
  | zero =>
    obtain ⟨u, hu, hrest⟩ := pollRun_cons_cases h
    cases hrest
    exact pollStep_release hs hu
  | succ k ih =>
    obtain ⟨u, hu, hrest⟩ := pollRun_cons_cases h
    obtain ⟨hstate, hcount⟩ := pollStep_release hs hu
    obtain ⟨hstate', hcount'⟩ := ih hstate hrest
    exact ⟨hstate', hcount'.trans hcount⟩

/-- A press held and released for any number of samples: the next scene, IDLE, and one command more. -/
theorem pollRun_press_release {a b : Nat} (hc : cfgLegal s.cfg = true) (hs : pstate s = ⟨n, .idle, false, e⟩)
    (h : pollRun (List.replicate (a + 1) false ++ List.replicate (b + 1) true) s = .next t) :
    pstate t = ⟨n ^^^ 1#1, .idle, false, e⟩ ∧ t.trace.countP isCmd = s.trace.countP isCmd + 1 := by
  obtain ⟨u, hu, hrest⟩ := pollRun_append_cases h
  obtain ⟨hpressed, htrace⟩ := pollRun_press hc hs hu
  obtain ⟨hreleased, hcount⟩ := pollRun_release hpressed hrest
  refine ⟨hreleased, ?_⟩
  rw [hcount, htrace, List.countP_append]
  rfl

end

/-- Settles O28: a run of low samples is one press and then holds; a press and a release advance the scene by one and add
one command, and doing so twice undoes the advance. -/
theorem debounceAndToggle : Obligations.DebounceAndToggle := by
  intro s hphase hd hc
  have hp : s.fsm.phase ≠ .fatal := by simp [hphase]
  have hs : pstate s = ⟨s.fsm.scene, .idle, false, s.fsm.errCode⟩ := hd ▸ pstate_of_not_fatal hp
  refine ⟨fun k => ?_, fun a b c d => ?_⟩
  · obtain ⟨t, ht⟩ := pollRun_completes (List.replicate (k + 1) false) s
    obtain ⟨hstate, htrace⟩ := pollRun_press hc hs ht
    obtain ⟨-, hheld, hlive, -⟩ := pstate_eq_iff_of_not_fatal.mp hstate
    exact ⟨t, ht, pollSelected_eq_pollPress hp hd, pollSelected_eq_pollHold hlive hheld, hstate, htrace⟩
  · rw [List.append_assoc _ (List.replicate (c + 1) false)]
    obtain ⟨t, ht⟩ := pollRun_completes ((List.replicate (a + 1) false ++ List.replicate (b + 1) true) ++
      (List.replicate (c + 1) false ++ List.replicate (d + 1) true)) s
    obtain ⟨u, hfirst, hsecond⟩ := pollRun_append_cases ht
    obtain ⟨hu, hcount⟩ := pollRun_press_release hc hs hfirst
    obtain ⟨hstate, hcount'⟩ := pollRun_press_release (pollRun_keeps_cfg hfirst ▸ hc) hu hsecond
    rw [BitVec.xor_assoc, BitVec.xor_self, BitVec.xor_zero] at hstate
    exact ⟨t, ht, hstate.trans hs.symm, by rw [hcount', hcount]⟩

/-! ### The edge in FATAL (43_input_fsm.md R295) -/

/-- An edge with `rst_i` = 0 is the operation PTXCTL selects, the shift, and the FSM's rule (R288). -/
theorem clockEdge_of_run {s p : State} {lvl : Bool} (hr : s.pins.rst = false) (hl : lvl? s = some lvl)
    (hp : exec (ptxSelected s s.pins.txFault) s = .next p) :
    clockEdge s = .next (afterEdge (fsmEdge lvl s (shiftSync s p))) := by
  rw [clockEdge, if_neg (Bool.eq_false_iff.mp hr), runEdge, hl, hp]
  rfl

/-- What PTX's operation and the shift leave in the FSM registers for the FSM's rule to change. -/
theorem shiftSync_fsm_of_ptx {s p : State} {fault : Bool} (hp : exec (ptxSelected s fault) s = .next p) :
    (shiftSync s p).fsm = edgeBase s := by
  rw [txOp_leaves_rest hp]
  rfl

theorem fsmEdge_of_fatal {s : State} (hf : s.fsm.phase = .fatal) (lvl : Bool) (t : State) : fsmEdge lvl s t = t := by
  rw [fsmEdge, hf]

/-- A free PTX stays idle, with the line low (42_pulse_transmit.md R221). -/
theorem ptx_idle_of_free {s p : State} {fault : Bool} (hfree : PtxFree s)
    (hp : exec (ptxSelected s fault) s = .next p) : p.ptx.busy = false ∧ p.ptx.dout = false := by
  obtain ⟨hstart, hbusy, -⟩ := hfree
  rw [ptxSelected_eq_txIdle hbusy hstart, exec_txIdle] at hp
  cases hp
  exact ⟨hbusy, rfl⟩

/-- Settles O37: in FATAL the FSM's rule changes nothing, so the edge is PTX's operation and the shift. -/
theorem fatalEdgeKeepsTheRegisters : Obligations.FatalEdgeKeepsTheRegisters := by
  intro s lvl hr hl hf
  obtain ⟨p, hp⟩ : ∃ p, exec (ptxSelected s s.pins.txFault) s = .next p := txOp_completes _ _ _ _
  have hedge := clockEdge_of_run hr hl hp
  rw [fsmEdge_of_fatal hf] at hedge
  have hfsm : (afterEdge (shiftSync s p)).fsm = edgeBase s := shiftSync_fsm_of_ptx hp
  have hidle : PtxFree s → p.ptx.busy = false ∧ p.ptx.dout = false := fun hfree => ptx_idle_of_free hfree hp
  refine ⟨p, _, hp, hedge, rfl, rfl, hfsm, rfl, ?_, hidle⟩
  rw [outputs, hfsm, edgeBase, hf]
  rfl

end Sys2Proof.Machine
end

section
/-! PROOFS. FATAL is absorbing: what each line of stimulus does there, and what a step leaves as it is
(60_exceptions.md R346). -/

namespace Sys2Proof.Machine

/-- Everything a step that is no reset can do: a clock edge with `rst_i` = 0 when no line is queued, or the next line,
which is no reset. -/
theorem step_cases_of_not_reset {s t : State} (hr : resetNow s = false) (h : step s = .next t) :
    (s.pins.rst = false ∧ clockEdge s = .next t) ∨
    ∃ l rest, s.stim = l :: rest ∧ resetNow { s with stim := l :: rest } = false ∧
      runLine l { s with stim := rest } = .next t := by
  obtain ⟨-, hrun⟩ := step_cases h
  rw [runNext] at hrun
  split at hrun
  next hs => exact .inl ⟨by simpa only [resetNow, hs] using hr, hrun⟩
  next l rest hs => exact .inr ⟨l, rest, hs, by rw [← hs, hr], hrun⟩

/-! ### PState (10_state.md R52) under the lines that are no reset -/

/-- PTX and the request registers are no part of PState. -/
theorem ptxOnlyEdge_keeps_pstate {start : Option ColorWord} {fault : Bool} {s t : State}
    (h : ptxOnlyEdge start fault s = .next t) : pstate t = pstate s := by
  obtain ⟨-, -, hfsm⟩ := ptxOnlyEdge_leaves_rest h
  rw [pstate, fatalFlag, hfsm]
  rfl

theorem untilDone_pstate (s : State) : pstate (untilDone s) = pstate s := by
  rw [untilDone_leaves_rest]
  rfl

section
variable {s t : State} (hf : s.fsm.phase = .fatal)
include hf

/-- Everything a clock edge with `rst_i` = 0 does in FATAL: PTX's operation and the shift (43_input_fsm.md R295). -/
theorem clockEdge_cases_of_fatal (hr : s.pins.rst = false) (h : clockEdge s = .next t) :
    ∃ p, exec (ptxSelected s s.pins.txFault) s = .next p ∧ t = afterEdge (shiftSync s p) := by
  rcases clockEdge_cases h with ⟨hrst, -⟩ | ⟨-, u, hu, rfl⟩
  · exact absurd hrst (by simp [hr])
  · obtain ⟨lvl, p, -, hp, rfl⟩ := runEdge_cases hu
    exact ⟨p, hp, by rw [fsmEdge_of_fatal hf]⟩

theorem clockEdge_keeps_pstate_of_fatal (hr : s.pins.rst = false) (h : clockEdge s = .next t) :
    pstate t = pstate s := by
  obtain ⟨p, hp, rfl⟩ := clockEdge_cases_of_fatal hf hr h
  rw [txOp_leaves_rest hp]
  rfl

/-- Everything a `POLL` line does in FATAL: it waits for a frame still in flight, or runs POLL.DEAD (43_input_fsm.md
R287). -/
theorem runLine_poll_cases_of_fatal {lvl : Bool} {txr : TxResult} {cmdr : CmdResult}
    (h : runLine (.poll lvl txr cmdr) s = .next t) :
    (s.ptx.busy = true ∧ ptxOnlyEdge none false { s with stim := .poll lvl txr cmdr :: s.stim } = .next t) ∨
    (s.ptx.busy = false ∧ t = afterEdge { s with ans := ⟨txr, cmdr⟩ }) := by
  have hpoint : atPollPoint s = true := decide_eq_true (.inr hf)
  rw [runLine, if_pos hpoint] at h
  cases hb : s.ptx.busy with
  | true => exact .inl ⟨rfl, by rwa [if_pos hb] at h⟩
  | false =>
    rw [if_neg (Bool.eq_false_iff.mp hb), pollStep, pollSelected_eq_pollDead hf] at h
    cases h
    exact .inr ⟨rfl, rfl⟩

/-- In FATAL no line but a reset changes PState: the FSM has no rule there, and every other line is an edge of PTX alone
or an operation on the units. As in `runLine_keeps_cfg`, `(… :)` reads a law at the state the line has written. -/
theorem runLine_keeps_pstate_of_fatal {l : Line} (hr : resetNow { s with stim := l :: s.stim } = false)
    (h : runLine l s = .next t) : pstate t = pstate s := by
  cases l with
  | rst => cases hr
  | poll lvl txr cmdr =>
    rcases runLine_poll_cases_of_fatal hf h with ⟨-, hedge⟩ | ⟨-, rfl⟩
    · exact (ptxOnlyEdge_keeps_pstate hedge :)
    · rfl
  | operand f word =>
    obtain ⟨-, -, -, ht⟩ := runOperand_cases h
    rw [ht]
    rfl
  | tx _ | untilDone =>
    obtain ⟨u, hu, rfl⟩ := mapNext_eq_next h
    exact (untilDone_pstate u).trans (ptxOnlyEdge_keeps_pstate hu)
  | wait n =>
    match n, h with
    | 0, h => cases h; rfl
    | 1, h => exact ptxOnlyEdge_keeps_pstate h
    | n + 2, h => exact (ptxOnlyEdge_keeps_pstate h :)
  | ptxEdge start fault => exact ptxOnlyEdge_keeps_pstate h
  | edge p =>
    have hp : p.rst = false := hr
    exact clockEdge_keeps_pstate_of_fatal (s := { s with pins := p, rstLow := false }) hf hp h

theorem step_keeps_pstate_of_fatal (hr : resetNow s = false) (h : step s = .next t) : pstate t = pstate s := by
  rcases step_cases_of_not_reset hr h with ⟨hrst, hedge⟩ | ⟨l, rest, -, hline, hrun⟩
  · exact clockEdge_keeps_pstate_of_fatal hf hrst hedge
  · exact runLine_keeps_pstate_of_fatal (s := { s with stim := rest }) hf hline hrun

end

/-! ### A quiet PTX -/

/-- PTX as the FSM finds it in FATAL: free, with the line low. -/
def PtxQuiet (s : State) : Prop := PtxFree s ∧ s.ptx.dout = false

section
variable {s t : State} (hf : s.fsm.phase = .fatal) (hq : PtxQuiet s)
include hf hq

/-- With no request PTX runs TX.IDLE, which starts no frame and emits nothing (42_pulse_transmit.md R221). -/
theorem clockEdge_keeps_quiet_of_fatal (hr : s.pins.rst = false) (h : clockEdge s = .next t) :
    PtxQuiet t ∧ t.trace = s.trace := by
  obtain ⟨⟨hstart, hbusy, -⟩, -⟩ := hq
  obtain ⟨p, hp, rfl⟩ := clockEdge_cases_of_fatal hf hr h
  rw [ptxSelected_eq_txIdle hbusy hstart, exec_txIdle] at hp
  cases hp
  exact ⟨⟨⟨rfl, hbusy, rfl⟩, rfl⟩, rfl⟩

/-- In FATAL a line that drives the whole block and is no reset leaves a quiet PTX quiet. -/
theorem runLine_keeps_quiet_of_fatal {l : Line} (hr : resetNow { s with stim := l :: s.stim } = false)
    (hl : wholeBlock l = true) (h : runLine l s = .next t) : PtxQuiet t ∧ t.trace = s.trace := by
  cases l with
  | rst => cases hr
  | poll lvl txr cmdr =>
    have ⟨⟨_, hbusy, _⟩, _⟩ := hq
    rcases runLine_poll_cases_of_fatal hf h with ⟨hb, -⟩ | ⟨-, rfl⟩
    · exact absurd hb (by simp [hbusy])
    · exact ⟨hq, rfl⟩
  | operand f word =>
    obtain ⟨-, -, -, ht⟩ := runOperand_cases h
    rw [ht]
    exact ⟨hq, rfl⟩
  | tx _ | untilDone | wait _ | ptxEdge _ _ => cases hl
  | edge p =>
    have hp : p.rst = false := hr
    exact clockEdge_keeps_quiet_of_fatal (s := { s with pins := p, rstLow := false }) hf hq hp h

theorem step_keeps_quiet_of_fatal (hr : resetNow s = false) (hw : s.stim.all wholeBlock = true)
    (h : step s = .next t) : PtxQuiet t ∧ t.trace = s.trace := by
  rcases step_cases_of_not_reset hr h with ⟨hrst, hedge⟩ | ⟨l, rest, hs, hline, hrun⟩
  · exact clockEdge_keeps_quiet_of_fatal hf hq hrst hedge
  · have hl : wholeBlock l = true := List.all_eq_true.mp hw l (by simp [hs])
    exact runLine_keeps_quiet_of_fatal (s := { s with stim := rest }) hf hq hline hl hrun

end

/-- Settles O46: but for a reset a step in FATAL keeps PState, which says that the machine is still fatal, and keeps a
quiet PTX quiet. -/
theorem fatalIsAbsorbing : Obligations.FatalIsAbsorbing := by
  intro s t hf hr h
  have hstate : pstate t = pstate s := step_keeps_pstate_of_fatal hf hr h
  obtain ⟨hscene, hdstate, hfatal, herr⟩ := PState.mk.inj hstate
  have hphase : t.fsm.phase = .fatal := fatalFlag_eq_true.mp (hfatal.trans (fatalFlag_eq_true.mpr hf))
  refine ⟨hphase, herr, hscene, hdstate, fun hfree hlow hw => ?_⟩
  obtain ⟨⟨hfree', hlow'⟩, htrace⟩ := step_keeps_quiet_of_fatal hf ⟨hfree, hlow⟩ hr hw h
  exact ⟨hfree', hlow', htrace⟩

end Sys2Proof.Machine
end

section
/-! PROOFS. RST: the reset of every register (70_reset_and_hazards.md R380, R381). -/

namespace Sys2Proof.Machine

/-- RST in one equation: the registers of the FSM and of PTX take their reset values (R380), and the record of cut frames
gains the word in flight when PTX is sending (R381). -/
theorem exec_rst (s : State) :
    exec .rst s = .next { s with
      fsm := fsmReset s.cfg, ptx := ptxReset, cuts := if s.ptx.busy then s.cuts ++ [s.ptx.word] else s.cuts } := rfl

/-- Settles O29: the equation of RST gives the state, its two reset records are the values R51 lists, and `ptx_busy`
decides what the record of cut frames becomes. -/
theorem rstResetsEveryRegister : Obligations.RstResetsEveryRegister := by
  intro s
  refine ⟨_, exec_rst s, rfl, ?idle, ?busy⟩
  case idle =>
    intro hidle
    exact if_neg (Bool.eq_false_iff.mp hidle)
  case busy =>
    intro hbusy
    exact if_pos hbusy

end Sys2Proof.Machine
end

section
/-! PROOFS. Encoding and decoding undo each other (30_encoding.md R101 to R108, R112). -/

namespace Sys2Proof

/-! ### The fields of an operand word (30_encoding.md R101, R103, R105) -/

@[simp] theorem bitField_toNat (w lo n : Nat) : (bitField w lo n).toNat = w / 2 ^ lo % 2 ^ n := by
  rw [bitField, BitVec.toNat_ofNat, Nat.shiftRight_eq_div_pow]

/-- A field, by the quotient and the remainder that give its number. -/
theorem bitField_eq_of_toNat {w lo n : Nat} {x : BitVec n} (h : w / 2 ^ lo % 2 ^ n = x.toNat) : bitField w lo n = x :=
  BitVec.eq_of_toNat_eq ((bitField_toNat w lo n).trans h)

theorem decode_encode_cvt (h : BitVec 9) (sat v : BitVec 7) :
    decode (encode (.cvt h sat v)).1 (encode (.cvt h sat v)).2 = .op (.cvt h sat v) := by
  have hsat := sat.isLt
  have hv := v.isLt
  have hh := h.isLt
  rw [decode_of_lt (Laws.EncodingFits.cvt h sat v), encode, decodeFitting]
  rw [bitField_eq_of_toNat (x := h) (by omega), bitField_eq_of_toNat (x := sat) (by omega),
    bitField_eq_of_toNat (x := v) (by omega)]

theorem decode_encode_pack (r g b : Byte) :
    decode (encode (.pack r g b)).1 (encode (.pack r g b)).2 = .op (.pack r g b) := by
  have hr := r.isLt
  have hg := g.isLt
  have hb := b.isLt
  rw [decode_of_lt (Laws.EncodingFits.pack r g b), encode, decodeFitting]
  rw [bitField_eq_of_toNat (x := r) (by omega), bitField_eq_of_toNat (x := g) (by omega),
    bitField_eq_of_toNat (x := b) (by omega)]

theorem decode_encode_enc (w : ColorWord) :
    decode (encode (.enc w)).1 (encode (.enc w)).2 = .op (.enc w) := by
  rw [decode_of_lt (Laws.EncodingFits.enc w), encode, decodeFitting, bitField_zero, BitVec.ofNat_toNat,
    BitVec.setWidth_eq]

/-- Settles O52: the fields of an operand word read back one by one; the words of the control vectors are made of three
bits, and these select the row they were written for. -/
theorem decodeOfEncodeIsTheOperation : Obligations.DecodeOfEncodeIsTheOperation := by
  intro i _
  cases i with
  | cvt h sat v => exact decode_encode_cvt h sat v
  | pack r g b => exact decode_encode_pack r g b
  | enc w => exact decode_encode_enc w
  | sym1 | sym0 | rst => rfl
  | txIdle fault => exact decode_ptxctl_threeBits false false fault
  | txStart fault => exact decode_ptxctl_threeBits false true fault
  | txRun start => exact decode_ptxctl_threeBits true start false
  | txFault start => exact decode_ptxctl_threeBits true start true
  | pollPress => exact decode_pollctl_threeBits false false .idle
  | pollHold => exact decode_pollctl_threeBits false false .handled
  | pollRelease d => exact decode_pollctl_threeBits false true d
  | pollDead lvl d => exact decode_pollctl_threeBits true lvl d

/-! ### From the word to the operation and back (30_encoding.md R112) -/

theorem encode_ptxctlOp (busy start fault : Bool) :
    encode (ptxctlOp busy start fault) = (.ptxctl, threeBits busy start fault) := by
  cases busy <;> cases start <;> cases fault <;> rfl

theorem encode_pollctlOp (dead lvl : Bool) (d : DState) :
    encode (pollctlOp dead lvl d) = (.pollctl, threeBits dead lvl (dstateBit d)) := by
  cases dead <;> cases lvl <;> cases d <;> rfl

/-- A word is an operation only if it fits its format, and then by the format's table. -/
theorem decode_eq_op {f : Format} {w : Nat} {i : Instr} (h : decode f w = .op i) :
    w < 2 ^ formatWidth f ∧ decodeFitting f w = .op i := by
  unfold decode at h
  split at h
  · next hw => exact ⟨hw, h⟩
  · cases h

/-- Settles O53: an operand word is put together again from its fields, a control vector from its three bits; CMD16 and
ERR2 words are no operation. -/
theorem encodeOfDecodeIsTheWord : Obligations.EncodeOfDecodeIsTheWord := by
  intro f w i h
  obtain ⟨hw, hi⟩ := decode_eq_op h
  cases f <;> simp only [formatWidth] at hw <;> simp only [decodeFitting, Decoded.op.injEq] at hi
  case hsv23 | rgb24 | frame24 =>
    rw [← hi, encode]
    simp only [bitField_toNat]
    exact congrArg _ (by omega)
  case sym =>
    obtain rfl | rfl : w = 0 ∨ w = 1 := by omega
    all_goals
      cases hi
      rfl
  case rstctl =>
    obtain rfl | rfl : w = 0 ∨ w = 1 := by omega
    · cases hi
    · cases hi
      rfl
  case ptxctl =>
    rw [← hi, encode_ptxctlOp, threeBits_testBit hw]
  case pollctl =>
    rw [← hi, encode_pollctlOp, dstateBit_dstateOfBit, threeBits_testBit hw]
  case cmd16 | err2 => cases hi

/-- Settles O54: each word fits its format, and the format's table gives the operation; the last does not fit. -/
theorem specWordsDecode : Obligations.SpecWordsDecode := by
  unfold Obligations.SpecWordsDecode
  decide

end Sys2Proof
end

section
/-! PROOFS. PTX: the low part, the gap and the abort of a frame (42_pulse_transmit.md R226 to R228). -/

namespace Sys2Proof.Machine

/-- `TL` by the bit in flight (R223). -/
theorem tlInFlight_eq_ite (s : State) :
    tlInFlight s = if s.ptx.word.getLsbD (23 - s.ptx.slot.val) then t1l s.cfg else t0l s.cfg := by
  rw [tlInFlight, symInFlight, slotSym]
  cases s.ptx.word.getLsbD (23 - s.ptx.slot.val) <;> rfl

theorem exec_txRun_of_lo {s : State} (hp : s.ptx.phase = .lo) (start : Bool) :
    exec (.txRun start) s = .next (runLo s) := by
  rw [exec, execTxRun, hp]

theorem exec_txRun_of_gap {s : State} (hp : s.ptx.phase = .gap) (start : Bool) :
    exec (.txRun start) s = .next (runGap s) := by
  rw [exec, execTxRun, hp]

theorem exec_txFault (start : Bool) (s : State) : exec (.txFault start) s = .next (abortFrame s) := rfl

/-! ### One clock period of each phase, by where the count stands -/

theorem runHi_of_count {s : State} (h : s.ptx.cnt + 1 ≠ thInFlight s) : runHi s = countTick true s := if_neg h

theorem runHi_of_end {s : State} (h : s.ptx.cnt + 1 = thInFlight s) :
    runHi s = enterPhase .lo s.ptx.slot false s := if_pos h

theorem runLo_of_count {s : State} (h : s.ptx.cnt + 1 ≠ tlInFlight s) : runLo s = countTick false s := if_neg h

theorem runLo_of_nextSlot {s : State} (h : s.ptx.cnt + 1 = tlInFlight s) {next : Fin 24}
    (hn : next.val = s.ptx.slot.val + 1) : runLo s = enterPhase .hi next true s := by
  have hlt : s.ptx.slot.val < 23 := by omega
  have heq : (⟨s.ptx.slot.val + 1, by omega⟩ : Fin 24) = next := Fin.ext hn.symm
  rw [runLo, if_pos h, dif_pos hlt, heq]

theorem runLo_of_gap {s : State} (h : s.ptx.cnt + 1 = tlInFlight s) (hlast : s.ptx.slot = 23)
    (hr : 0 < s.cfg.resetTicks) : runLo s = enterPhase .gap s.ptx.slot false s := by
  rw [runLo, if_pos h, dif_neg (by simp [hlast]), if_pos hr]

theorem runLo_of_end {s : State} (h : s.ptx.cnt + 1 = tlInFlight s) (hlast : s.ptx.slot = 23)
    (hr : s.cfg.resetTicks = 0) : runLo s = finishFrame s := by
  rw [runLo, if_pos h, dif_neg (by simp [hlast]), if_neg (by omega)]

/-- Where the low part of a slot can stand: within its count, or at its end with a slot left, a gap to come, or
neither. -/
theorem lo_cases (s : State) :
    s.ptx.cnt + 1 ≠ tlInFlight s ∨
      (s.ptx.cnt + 1 = tlInFlight s ∧
        ((∃ next : Fin 24, next.val = s.ptx.slot.val + 1) ∨ (s.ptx.slot = 23 ∧ 0 < s.cfg.resetTicks) ∨
          (s.ptx.slot = 23 ∧ s.cfg.resetTicks = 0))) := by
  by_cases hend : s.ptx.cnt + 1 = tlInFlight s
  · refine .inr ⟨hend, ?_⟩
    by_cases hslot : s.ptx.slot.val < 23
    · exact .inl ⟨⟨s.ptx.slot.val + 1, by omega⟩, rfl⟩
    · have hlast : s.ptx.slot = 23 := by omega
      rcases Nat.eq_zero_or_pos s.cfg.resetTicks with hr | hr
      · exact .inr (.inr ⟨hlast, hr⟩)
      · exact .inr (.inl ⟨hlast, hr⟩)
  · exact .inl hend

theorem runGap_of_count {s : State} (h : s.ptx.cnt + 1 ≠ s.cfg.resetTicks) : runGap s = countTick false s := if_neg h

theorem runGap_of_end {s : State} (h : s.ptx.cnt + 1 = s.cfg.resetTicks) : runGap s = finishFrame s := if_pos h

/-! ### The rules -/

/-- Settles O16: where the count stands and whether a slot is left decide among the four outcomes of `runLo`. -/
theorem txRunLowPart : Obligations.TxRunLowPart := by
  intro start s hp TL
  have hTL : TL = tlInFlight s := (tlInFlight_eq_ite s).symm
  simp only [hTL, ne_eq, cast_eq_cast_sub_one_iff]
  refine ⟨runLo s, exec_txRun_of_lo hp start, ?count, ?nextSlot, ?gap, ?finish⟩
  case count => exact runLo_of_count
  case nextSlot => exact fun hend next hnext => runLo_of_nextSlot hend hnext
  case gap => exact runLo_of_gap
  case finish => exact runLo_of_end

/-- Settles O17: `runGap` tests the end of RESET_TICKS, and its two branches are the rule's. -/
theorem txRunGapPart : Obligations.TxRunGapPart := by
  intro start s hp
  rw [exec_txRun_of_gap hp]
  exact congrArg _ (if_congr cast_eq_cast_sub_one_iff.symm rfl rfl)

/-- Settles O18: the effect is `abortFrame`, which looks neither at the phase nor at the count. -/
theorem txFaultAbortsTheFrame : Obligations.TxFaultAbortsTheFrame := exec_txFault

end Sys2Proof.Machine
end

section
/-! PROOFS. What a step can do, said once for every line: the state in which the line acts, and what acts there
(30_encoding.md R115). -/

namespace Sys2Proof.Machine

/-- `s'` is `s` with the line of its next step taken: the queue is the model's own, the pins have the levels of that
step's edge, and a mark of a line `RST` is taken back by a line that gives the pins only. -/
structure TakesLine (s s' : State) : Prop where
  eq : s' = { s with stim := s'.stim, pins := pinsNow s, rstLow := s'.rstLow }
  keepsMark : (∀ p rest, s.stim ≠ .edge p :: rest) → s.rstLow = true → s'.rstLow = true

/-- What a step from `s` does in the state `s'` in which its line is taken. -/
inductive LineRuns (s s' t : State) : Prop where
  /-- a clock edge of the whole block, which is a reset by `rst_i` alone -/
  | edge (hreset : s'.pins.rst = resetNow s) (hrun : clockEdge s' = .next t)
  /-- the line `RST` -/
  | rst (hreset : resetNow s = true) (hmark : s'.rstLow = true) (hrun : mapNext afterEdge (exec .rst s') = .next t)
  /-- an edge of PTX alone, after which the line may stay in the queue -/
  | ptxEdge (hreset : resetNow s = false) (start : Option ColorWord) (fault : Bool) (u : State)
      (hrun : ptxOnlyEdge start fault s' = .next u) (ht : t = { u with stim := t.stim })
  /-- a poll line at a poll point, with PTX idle -/
  | poll (hreset : resetNow s = false) (lvl : Bool) (txr : TxResult) (cmdr : CmdResult)
      (hline : ∃ rest, s.stim = .poll lvl txr cmdr :: rest) (hpoint : atPollPoint s = true) (hidle : s.ptx.busy = false)
      (u : State) (hrun : pollStep lvl txr cmdr s' = .next u) (ht : t = afterEdge u)
  /-- an operand word on the units -/
  | operand (hreset : resetNow s = false) (ht : t = { s' with units := t.units }) (f : UnitFormat) (w : Nat)
      (hrun : runOperand f w s' = .next t)
  /-- the line `WAIT 0` -/
  | skip (hreset : resetNow s = false) (ht : t = s')

section
variable {s t : State} {rest : List Line}

theorem pinsNow_of_nil (hs : s.stim = []) : pinsNow s = s.pins := by
  unfold pinsNow
  rw [hs]

theorem pinsNow_of_line {l : Line} (hs : s.stim = l :: rest) (hl : ∀ p, l ≠ .edge p) : pinsNow s = s.pins := by
  unfold pinsNow
  rw [hs]
  cases l with
  | edge p => exact absurd rfl (hl p)
  | _ => rfl

/-- A line that gives no pins acts in the state with another queue. -/
theorem takesLine_of_stim {l : Line} (hs : s.stim = l :: rest) (hl : ∀ p, l ≠ .edge p) (q : List Line) :
    TakesLine s { s with stim := q } :=
  ⟨by rw [pinsNow_of_line hs hl], fun _ hlow => hlow⟩

/-- Everything a poll line can do: an edge of the block inside a cycle; at a poll point the wait for a frame, or the
cycle. -/
theorem runLine_poll_cases {lvl : Bool} {txr : TxResult} {cmdr : CmdResult}
    (h : runLine (.poll lvl txr cmdr) s = .next t) :
    (atPollPoint s = false ∧ clockEdge { s with stim := .poll lvl txr cmdr :: s.stim } = .next t) ∨
    (atPollPoint s = true ∧ s.ptx.busy = true ∧
      ptxOnlyEdge none false { s with stim := .poll lvl txr cmdr :: s.stim } = .next t) ∨
    (atPollPoint s = true ∧ s.ptx.busy = false ∧ ∃ u, pollStep lvl txr cmdr s = .next u ∧ t = afterEdge u) := by
  rw [runLine] at h
  split at h
  next hpoint =>
    split at h
    next hb => exact .inr (.inl ⟨hpoint, hb, h⟩)
    next hb => exact .inr (.inr ⟨hpoint, Bool.eq_false_iff.mpr hb, mapNext_eq_next h⟩)
  next hpoint => exact .inl ⟨Bool.eq_false_iff.mpr hpoint, h⟩

theorem runLine_poll_runs {lvl : Bool} {txr : TxResult} {cmdr : CmdResult} (hs : s.stim = .poll lvl txr cmdr :: rest)
    (h : runLine (.poll lvl txr cmdr) { s with stim := rest } = .next t) :
    ∃ s', TakesLine s s' ∧ LineRuns s s' t := by
  have htake := takesLine_of_stim hs (by simp)
  have hreset : resetNow s = (!atPollPoint s && s.pins.rst) := by rw [resetNow, hs]
  rcases runLine_poll_cases h with ⟨hpoint, hrun⟩ | ⟨hpoint, -, hrun⟩ | ⟨hpoint, hidle, u, hu, ht⟩
  all_goals
    change atPollPoint s = _ at hpoint
    rw [hpoint] at hreset
  · exact ⟨_, htake (.poll lvl txr cmdr :: rest), .edge hreset.symm hrun⟩
  · exact ⟨_, htake _, .ptxEdge hreset _ _ t hrun rfl⟩
  · exact ⟨_, htake _, .poll hreset _ _ _ ⟨rest, hs⟩ hpoint hidle u hu ht⟩

/-- The line of a step, taken and run. -/
theorem runLine_runs {l : Line} (hs : s.stim = l :: rest) (h : runLine l { s with stim := rest } = .next t) :
    ∃ s', TakesLine s s' ∧ LineRuns s s' t := by
  cases l with
  | rst =>
    exact ⟨{ s with stim := rest, rstLow := true }, ⟨by rw [pinsNow_of_line hs (by simp)], fun _ _ => rfl⟩,
      .rst (by rw [resetNow, hs]) rfl h⟩
  | poll lvl txr cmdr => exact runLine_poll_runs hs h
  | operand f word =>
    obtain ⟨-, -, -, ht⟩ := runOperand_cases h
    exact ⟨_, takesLine_of_stim hs (by simp) rest, .operand (by rw [resetNow, hs]) ht f word h⟩
  | tx _ | untilDone =>
    obtain ⟨u, hu, rfl⟩ := mapNext_eq_next h
    exact ⟨_, takesLine_of_stim hs (by simp) rest,
      .ptxEdge (by rw [resetNow, hs]) _ _ u hu (untilDone_leaves_rest u)⟩
  | wait n =>
    have hlive : resetNow s = false := by rw [resetNow, hs]
    have htake := takesLine_of_stim hs (by simp)
    match n, h with
    | 0, h =>
      cases h
      exact ⟨_, htake rest, .skip hlive rfl⟩
    | 1, h => exact ⟨_, htake rest, .ptxEdge hlive _ _ t h rfl⟩
    | n + 2, h => exact ⟨_, htake _, .ptxEdge hlive _ _ t h rfl⟩
  | ptxEdge start fault =>
    exact ⟨_, takesLine_of_stim hs (by simp) rest, .ptxEdge (by rw [resetNow, hs]) _ _ t h rfl⟩
  | edge p =>
    exact ⟨{ s with stim := rest, pins := p, rstLow := false },
      ⟨by simp only [pinsNow, hs], fun hnot => absurd hs (hnot p rest)⟩, .edge (by rw [resetNow, hs]) h⟩

/-- Everything a step can do. -/
theorem step_runs (h : step s = .next t) : ∃ s', TakesLine s s' ∧ LineRuns s s' t := by
  obtain ⟨-, hrun⟩ := step_cases h
  rw [runNext] at hrun
  split at hrun
  next hs => exact ⟨s, ⟨by rw [pinsNow_of_nil hs], fun _ hlow => hlow⟩, .edge (by rw [resetNow, hs]) hrun⟩
  next l rest hs => exact runLine_runs hs hrun

end

/-- The registers, the wires and the events of the state in which a line acts are those before it. -/
theorem TakesLine.registers {s s' : State} (h : TakesLine s s') :
    s'.cfg = s.cfg ∧ s'.fsm = s.fsm ∧ s'.ptx = s.ptx ∧ s'.units = s.units ∧ s'.trace = s.trace ∧
      s'.pins = pinsNow s := by
  rw [h.eq]
  exact ⟨rfl, rfl, rfl, rfl, rfl, rfl⟩

end Sys2Proof.Machine
end

section
/-! PROOFS. The clock-level rules of the FSM, branch by branch, and the edges they make (43_input_fsm.md R288 to
R294). -/

namespace Sys2Proof.Machine

/-- A sample with nothing to do: a hold, or in EDGE mode a release of no press (R284, R285). -/
abbrev QuietSample (s : State) (lvl : Bool) : Prop :=
  lvl = false ∧ s.fsm.dstate = .handled ∨ lvl = true ∧ s.cfg.releaseMode = .edge ∧ s.fsm.dstate = .idle

/-- A sample that turns the feedback off (R285). -/
abbrev OffSample (s : State) (lvl : Bool) : Prop :=
  lvl = true ∧ (s.cfg.releaseMode = .level ∨ s.fsm.dstate = .handled)

/-- The four kinds of sample outside FATAL. -/
theorem sample_cases (s : State) (lvl : Bool) :
    (lvl = false ∧ s.fsm.dstate = .idle) ∨ QuietSample s lvl ∨ OffSample s lvl := by
  cases lvl <;> cases hd : s.fsm.dstate <;> cases hm : s.cfg.releaseMode <;> simp [QuietSample, OffSample, hd, hm]

/-! ### One equation for each branch of the rules -/

section
variable {s : State} {lvl : Bool} (t : State)

section
variable (hphase : s.fsm.phase = .sample)
include hphase

theorem fsmEdge_of_invalid (hl : lvl = false) (hd : s.fsm.dstate = .idle) (hv : (entryColor s).invalid = true) :
    fsmEdge lvl s t = raiseErr .invalidColorInput t := by
  rw [fsmEdge, hphase, sampleEdge, if_pos ⟨hl, hd⟩, if_pos hv]

theorem fsmEdge_of_press (hl : lvl = false) (hd : s.fsm.dstate = .idle) (hv : (entryColor s).invalid = false) :
    fsmEdge lvl s t = requestFrame (feedbackWord s) .showP t := by
  rw [fsmEdge, hphase, sampleEdge, if_pos ⟨hl, hd⟩, if_neg (Bool.eq_false_iff.mp hv)]

theorem fsmEdge_of_quiet (hq : QuietSample s lvl) : fsmEdge lvl s t = enterSleep t := by
  rw [fsmEdge, hphase]
  rcases hq with ⟨rfl, hd⟩ | ⟨rfl, hm, hd⟩ <;> simp [sampleEdge, *]

theorem fsmEdge_of_off (ho : OffSample s lvl) : fsmEdge lvl s t = requestFrame offWord .showR t := by
  obtain ⟨rfl, hm⟩ := ho
  rw [fsmEdge, hphase]
  simp only [sampleEdge, Bool.true_eq_false, false_and, if_false, if_pos hm]

end

section
variable (hphase : s.fsm.phase = .showP ∨ s.fsm.phase = .showR)
include hphase

theorem fsmEdge_of_frameWait (hd : s.ptx.done = false) : fsmEdge lvl s t = t := by
  rcases hphase with hphase | hphase <;> simp [fsmEdge, hphase, showPEdge, showREdge, hd]

theorem fsmEdge_of_frameFault (hd : s.ptx.done = true) (he : s.ptx.err = true) :
    fsmEdge lvl s t = raiseErr .peripheralError t := by
  rcases hphase with hphase | hphase <;> simp [fsmEdge, hphase, showPEdge, showREdge, hd, he]

end

theorem fsmEdge_of_shownPress (hphase : s.fsm.phase = .showP) (hd : s.ptx.done = true) (he : s.ptx.err = false) :
    fsmEdge lvl s t = goto .send t := by
  simp [fsmEdge, hphase, showPEdge, hd, he]

theorem fsmEdge_of_shownRelease (hphase : s.fsm.phase = .showR) (hd : s.ptx.done = true) (he : s.ptx.err = false) :
    fsmEdge lvl s t = enterSleep (rearm t) := by
  simp [fsmEdge, hphase, showREdge, hd, he]

section
variable (hphase : s.fsm.phase = .send)
include hphase

theorem fsmEdge_of_sendWait (ha : s.pins.cmdAck = false) : fsmEdge lvl s t = t := by
  simp [fsmEdge, hphase, sendEdge, ha]

theorem fsmEdge_of_sendErr (ha : s.pins.cmdAck = true) (he : s.pins.cmdErr = true) :
    fsmEdge lvl s t = raiseErr .transportError (emitCmd .err t) := by
  simp [fsmEdge, hphase, sendEdge, ha, he]

theorem fsmEdge_of_sent (ha : s.pins.cmdAck = true) (he : s.pins.cmdErr = false) :
    fsmEdge lvl s t = enterSleep (advanceScene (emitCmd .ok t)) := by
  simp [fsmEdge, hphase, sendEdge, ha, he]

end

section
variable (hphase : s.fsm.phase = .sleep)
include hphase

theorem fsmEdge_of_wake (h : s.fsm.sleepCnt + 1 = pollTicks s.cfg) : fsmEdge lvl s t = goto .sample t := by
  rw [fsmEdge, hphase, sleepEdge, if_pos h]

theorem fsmEdge_of_sleep (h : s.fsm.sleepCnt + 1 ≠ pollTicks s.cfg) :
    fsmEdge lvl s t = { t with fsm := { t.fsm with sleepCnt := s.fsm.sleepCnt + 1 } } := by
  rw [fsmEdge, hphase, sleepEdge, if_neg h]

end

end

/-! ### Every branch at once -/

/-- The FSM's rule at an edge, as a relation: the branch that applies in `s`, and what it makes of `t`. -/
inductive FsmRuns (lvl : Bool) (s t : State) : State → Prop where
  | invalid (hphase : s.fsm.phase = .sample) (hl : lvl = false) (hd : s.fsm.dstate = .idle)
      (hv : (entryColor s).invalid = true) : FsmRuns lvl s t (raiseErr .invalidColorInput t)
  | press (hphase : s.fsm.phase = .sample) (hl : lvl = false) (hd : s.fsm.dstate = .idle)
      (hv : (entryColor s).invalid = false) : FsmRuns lvl s t (requestFrame (feedbackWord s) .showP t)
  | quiet (hphase : s.fsm.phase = .sample) (hq : QuietSample s lvl) : FsmRuns lvl s t (enterSleep t)
  | off (hphase : s.fsm.phase = .sample) (ho : OffSample s lvl) : FsmRuns lvl s t (requestFrame offWord .showR t)
  | frameWait (hphase : s.fsm.phase = .showP ∨ s.fsm.phase = .showR) (hdone : s.ptx.done = false) : FsmRuns lvl s t t
  | frameFault (hphase : s.fsm.phase = .showP ∨ s.fsm.phase = .showR) (hdone : s.ptx.done = true)
      (herr : s.ptx.err = true) : FsmRuns lvl s t (raiseErr .peripheralError t)
  | shownPress (hphase : s.fsm.phase = .showP) (hdone : s.ptx.done = true) (herr : s.ptx.err = false) :
      FsmRuns lvl s t (goto .send t)
  | shownRelease (hphase : s.fsm.phase = .showR) (hdone : s.ptx.done = true) (herr : s.ptx.err = false) :
      FsmRuns lvl s t (enterSleep (rearm t))
  | sendWait (hphase : s.fsm.phase = .send) (hack : s.pins.cmdAck = false) : FsmRuns lvl s t t
  | sendErr (hphase : s.fsm.phase = .send) (hack : s.pins.cmdAck = true) (herr : s.pins.cmdErr = true) :
      FsmRuns lvl s t (raiseErr .transportError (emitCmd .err t))
  | sent (hphase : s.fsm.phase = .send) (hack : s.pins.cmdAck = true) (herr : s.pins.cmdErr = false) :
      FsmRuns lvl s t (enterSleep (advanceScene (emitCmd .ok t)))
  | wake (hphase : s.fsm.phase = .sleep) (hend : s.fsm.sleepCnt + 1 = pollTicks s.cfg) :
      FsmRuns lvl s t (goto .sample t)
  | sleep (hphase : s.fsm.phase = .sleep) (hcount : s.fsm.sleepCnt + 1 ≠ pollTicks s.cfg) :
      FsmRuns lvl s t { t with fsm := { t.fsm with sleepCnt := s.fsm.sleepCnt + 1 } }
  | dead (hphase : s.fsm.phase = .fatal) : FsmRuns lvl s t t

theorem fsmEdge_sample_runs {lvl : Bool} {s : State} (hphase : s.fsm.phase = .sample) (t : State) :
    FsmRuns lvl s t (fsmEdge lvl s t) := by
  rcases sample_cases s lvl with ⟨hl, hd⟩ | hq | ho
  · cases hv : (entryColor s).invalid with
    | true => rw [fsmEdge_of_invalid t hphase hl hd hv]; exact .invalid hphase hl hd hv
    | false => rw [fsmEdge_of_press t hphase hl hd hv]; exact .press hphase hl hd hv
  · rw [fsmEdge_of_quiet t hphase hq]; exact .quiet hphase hq
  · rw [fsmEdge_of_off t hphase ho]; exact .off hphase ho

theorem fsmEdge_send_runs {lvl : Bool} {s : State} (hphase : s.fsm.phase = .send) (t : State) :
    FsmRuns lvl s t (fsmEdge lvl s t) := by
  cases hack : s.pins.cmdAck with
  | false => rw [fsmEdge_of_sendWait t hphase hack]; exact .sendWait hphase hack
  | true =>
    cases herr : s.pins.cmdErr with
    | true => rw [fsmEdge_of_sendErr t hphase hack herr]; exact .sendErr hphase hack herr
    | false => rw [fsmEdge_of_sent t hphase hack herr]; exact .sent hphase hack herr

theorem fsmEdge_frame_runs {lvl : Bool} {s : State} (hphase : s.fsm.phase = .showP ∨ s.fsm.phase = .showR)
    (t : State) : FsmRuns lvl s t (fsmEdge lvl s t) := by
  cases hdone : s.ptx.done with
  | false => rw [fsmEdge_of_frameWait t hphase hdone]; exact .frameWait hphase hdone
  | true =>
    cases herr : s.ptx.err with
    | true => rw [fsmEdge_of_frameFault t hphase hdone herr]; exact .frameFault hphase hdone herr
    | false =>
      rcases hphase with hphase | hphase
      · rw [fsmEdge_of_shownPress t hphase hdone herr]; exact .shownPress hphase hdone herr
      · rw [fsmEdge_of_shownRelease t hphase hdone herr]; exact .shownRelease hphase hdone herr

theorem fsmEdge_sleep_runs {lvl : Bool} {s : State} (hphase : s.fsm.phase = .sleep) (t : State) :
    FsmRuns lvl s t (fsmEdge lvl s t) := by
  by_cases hend : s.fsm.sleepCnt + 1 = pollTicks s.cfg
  · rw [fsmEdge_of_wake t hphase hend]; exact .wake hphase hend
  · rw [fsmEdge_of_sleep t hphase hend]; exact .sleep hphase hend

/-- The FSM's rule is one of its branches. -/
theorem fsmEdge_runs (lvl : Bool) (s t : State) : FsmRuns lvl s t (fsmEdge lvl s t) := by
  cases hphase : s.fsm.phase with
  | sample => exact fsmEdge_sample_runs hphase t
  | showP => exact fsmEdge_frame_runs (.inl hphase) t
  | send => exact fsmEdge_send_runs hphase t
  | showR => exact fsmEdge_frame_runs (.inr hphase) t
  | sleep => exact fsmEdge_sleep_runs hphase t
  | fatal => rw [fsmEdge_of_fatal hphase]; exact .dead hphase

/-! ### The edge of the whole block -/

@[simp] theorem edgeBase_scene (s : State) : (edgeBase s).scene = s.fsm.scene := rfl
@[simp] theorem edgeBase_phase (s : State) : (edgeBase s).phase = s.fsm.phase := rfl
@[simp] theorem edgeBase_dstate (s : State) : (edgeBase s).dstate = s.fsm.dstate := rfl
@[simp] theorem edgeBase_sleepCnt (s : State) : (edgeBase s).sleepCnt = s.fsm.sleepCnt := rfl
@[simp] theorem edgeBase_errCode (s : State) : (edgeBase s).errCode = s.fsm.errCode := rfl
@[simp] theorem edgeBase_startR (s : State) : (edgeBase s).startR = false := rfl
@[simp] theorem edgeBase_wordR (s : State) : (edgeBase s).wordR = s.fsm.wordR := rfl
@[simp] theorem edgeBase_sync (s : State) :
    (edgeBase s).sync = (s.pins.btn :: s.fsm.sync).take s.cfg.syncStages := rfl

@[simp] theorem fsmEdge_ptx (lvl : Bool) (s t : State) : (fsmEdge lvl s t).ptx = t.ptx := by
  rw [fsmEdge_leaves_rest]

@[simp] theorem fsmEdge_rstLow (lvl : Bool) (s t : State) : (fsmEdge lvl s t).rstLow = t.rstLow := by
  rw [fsmEdge_leaves_rest]

@[simp] theorem fsmEdge_sync (lvl : Bool) (s t : State) : (fsmEdge lvl s t).fsm.sync = t.fsm.sync := by
  rw [fsmEdge_leaves_rest]

/-- Everything a clock edge with `rst_i` = 0 can do: PTX's operation `p`, the shift, and the FSM's rule. -/
theorem clockEdge_run_cases {s t : State} (hr : s.pins.rst = false) (h : clockEdge s = .next t) :
    ∃ lvl p, lvl? s = some lvl ∧ exec (ptxSelected s s.pins.txFault) s = .next p ∧
      t = afterEdge (fsmEdge lvl s (shiftSync s p)) := by
  rcases clockEdge_cases h with ⟨hrst, -⟩ | ⟨-, u, hu, rfl⟩
  · exact absurd hrst (by simp [hr])
  · obtain ⟨lvl, p, hl, hp, rfl⟩ := runEdge_cases hu
    exact ⟨lvl, p, hl, hp, rfl⟩

/-- An edge with `rst_i` = 0 in the words of the rules: PTX takes its operation's registers, and the FSM's rule starts
from `edgeBase s` and the trace of PTX's operation. -/
theorem clockEdge_edgeBase {s : State} {lvl : Bool} (hr : s.pins.rst = false) (hl : lvl? s = some lvl) :
    ∃ p b, exec (ptxSelected s s.pins.txFault) s = .next p ∧ b.fsm = edgeBase s ∧ b.trace = p.trace ∧ b.cfg = s.cfg ∧
      ∃ t, clockEdge s = .next t ∧ t.ptx = p.ptx ∧ t.fsm = (fsmEdge lvl s b).fsm ∧
        t.trace = (fsmEdge lvl s b).trace := by
  obtain ⟨p, hp⟩ : ∃ p, exec (ptxSelected s s.pins.txFault) s = .next p := txOp_completes _ _ _ _
  exact ⟨p, shiftSync s p, hp, shiftSync_fsm_of_ptx hp, rfl, (exec_keeps_cfg hp :),
    _, clockEdge_of_run hr hl hp, fsmEdge_ptx _ _ _, rfl, rfl⟩

section
variable {s b : State} (hbase : b.fsm = edgeBase s) (hcfg : b.cfg = s.cfg)
include hbase hcfg

/-- The command event of an edge names the scene before it. -/
theorem emitCmd_trace_of_edgeBase (r : CmdResult) :
    (emitCmd r b).trace = b.trace ++ [.cmd s.fsm.scene (sceneIdField s) (dimmingField s) r] := by
  have hscene : b.fsm.scene = s.fsm.scene := by simp [hbase]
  rw [emitCmd_trace, sceneIdField_congr hcfg hscene, dimmingField_congr hcfg hscene, hscene]

end

/-- Settles O32: the sample's kind and the entry's colour decide the branch. -/
theorem sampleEdgeDecides : Obligations.SampleEdgeDecides := by
  intro s lvl hr hl hphase
  obtain ⟨p, b, hp, hbase, hbtrace, -, t, ht, hptx, hfsm, htrace⟩ := clockEdge_edgeBase hr hl
  refine ⟨p, t, hp, ht, hptx, ?invalid, ?press, ?hold, ?off, ?quiet⟩ <;> rw [hfsm, htrace]
  case invalid =>
    intro hlow hd hv
    simp [fsmEdge_of_invalid b hphase hlow hd hv, hbase, hbtrace]
  case press =>
    intro hlow hd hv
    simp [fsmEdge_of_press b hphase hlow hd hv, hbase, hbtrace]
  case hold =>
    intro hlow hd
    simp [fsmEdge_of_quiet b hphase (.inl ⟨hlow, hd⟩), hbase, hbtrace]
  case off =>
    intro hhigh hm
    simp [fsmEdge_of_off b hphase ⟨hhigh, hm⟩, hbase, hbtrace, offWord]
  case quiet =>
    intro hhigh hm hd
    simp [fsmEdge_of_quiet b hphase (.inr ⟨hhigh, hm, hd⟩), hbase, hbtrace]

/-- Settles O33: the report of PTX decides the branch. -/
theorem showPEdgeWaitsForDone : Obligations.ShowPEdgeWaitsForDone := by
  intro s lvl hr hl hphase
  obtain ⟨p, b, hp, hbase, hbtrace, -, t, ht, hptx, hfsm, htrace⟩ := clockEdge_edgeBase hr hl
  refine ⟨p, t, hp, ht, hptx, ?wait, ?fault, ?done⟩ <;> rw [hfsm, htrace]
  case wait =>
    intro hdone
    simp [fsmEdge_of_frameWait b (.inl hphase) hdone, hbase, hbtrace]
  case fault =>
    intro hdone herr
    simp [fsmEdge_of_frameFault b (.inl hphase) hdone herr, hbase, hbtrace]
  case done =>
    intro hdone herr
    simp [fsmEdge_of_shownPress b hphase hdone herr, hbase, hbtrace]

/-- Settles O34: the sender's answer decides the branch, and without an acknowledge its error flag is not read. -/
theorem sendEdgeTakesTheAnswer : Obligations.SendEdgeTakesTheAnswer := by
  intro s lvl hr hl hphase
  obtain ⟨p, b, hp, hbase, hbtrace, hcfg, t, ht, hptx, hfsm, htrace⟩ := clockEdge_edgeBase hr hl
  have hcmd := emitCmd_trace_of_edgeBase hbase hcfg
  refine ⟨decide_eq_true hphase, p, t, hp, ht, hptx, ?wait, ?err, ?ok⟩ <;> rw [hfsm, htrace]
  case wait =>
    intro hack
    simp [fsmEdge_of_sendWait b hphase hack, hbase, hbtrace]
  case err =>
    intro hack herr
    rw [fsmEdge_of_sendErr b hphase hack herr, raiseErr_trace, hcmd]
    simp [hbase, hbtrace]
  case ok =>
    intro hack herr
    rw [fsmEdge_of_sent b hphase hack herr, enterSleep_trace, advanceScene_trace, hcmd]
    simp [hbase, hbtrace]

/-- Settles O35: the report of PTX decides the branch. -/
theorem showREdgeWaitsForDone : Obligations.ShowREdgeWaitsForDone := by
  intro s lvl hr hl hphase
  obtain ⟨p, b, hp, hbase, hbtrace, -, t, ht, hptx, hfsm, htrace⟩ := clockEdge_edgeBase hr hl
  refine ⟨p, t, hp, ht, hptx, ?wait, ?fault, ?done⟩ <;> rw [hfsm, htrace]
  case wait =>
    intro hdone
    simp [fsmEdge_of_frameWait b (.inr hphase) hdone, hbase, hbtrace]
  case fault =>
    intro hdone herr
    simp [fsmEdge_of_frameFault b (.inr hphase) hdone herr, hbase, hbtrace]
  case done =>
    intro hdone herr
    simp [fsmEdge_of_shownRelease b hphase hdone herr, hbase, hbtrace]

/-- Settles O36: the model's test of the count is the rule's, in natural numbers. -/
theorem sleepEdgeCounts : Obligations.SleepEdgeCounts := by
  intro s lvl hr hl hphase
  obtain ⟨p, b, hp, hbase, hbtrace, -, t, ht, hptx, hfsm, htrace⟩ := clockEdge_edgeBase hr hl
  refine ⟨p, t, hp, ht, hptx, ?_⟩
  rw [hfsm, htrace]
  simp only [cast_eq_cast_sub_one_iff]
  by_cases hend : s.fsm.sleepCnt + 1 = pollTicks s.cfg
  · rw [fsmEdge_of_wake b hphase hend, if_pos hend]
    simp [hbase, hbtrace]
  · rw [fsmEdge_of_sleep b hphase hend, if_neg hend]
    simp [hbase, hbtrace]

end Sys2Proof.Machine
end

section
/-! PROOFS. Everything the poll operations can do, and what they leave unchanged (43_input_fsm.md R281 to R287). -/

namespace Sys2Proof.Machine

section
variable {s t : State}

/-- The four ends of a press (R281). -/
theorem pollPress_cases (h : exec .pollPress s = .next t) :
    ((entryColor s).invalid = true ∧ t = raiseErr .invalidColorInput (passEdges s)) ∨
    ((entryColor s).invalid = false ∧
      ((s.ans.txr = .fault ∧ t = raiseErr .peripheralError (showFrame (feedbackWord s) (passEdges s))) ∨
      (s.ans.txr = .ok ∧ s.ans.cmdr = .err ∧
        t = raiseErr .transportError (emitCmd .err (showFrame (feedbackWord s) (passEdges s)))) ∨
      (s.ans.txr = .ok ∧ s.ans.cmdr = .ok ∧
        t = sleepThrough (advanceScene (emitCmd .ok (showFrame (feedbackWord s) (passEdges s))))))) := by
  cases hv : (entryColor s).invalid with
  | true =>
    rw [exec_pollPress_of_invalid hv] at h
    cases h
    exact .inl ⟨rfl, rfl⟩
  | false =>
    refine .inr ⟨rfl, ?_⟩
    cases hx : s.ans.txr with
    | fault =>
      rw [exec_pollPress_of_txFault hv hx] at h
      cases h
      exact .inl ⟨rfl, rfl⟩
    | ok =>
      rw [exec_pollPress_of_txOk hv hx] at h
      cases h
      cases hr : s.ans.cmdr with
      | err => exact .inr (.inl ⟨rfl, rfl, sendCommand_of_err hr⟩)
      | ok => exact .inr (.inr ⟨rfl, rfl, sendCommand_of_ok hr⟩)

/-- The three ends of a release (R285). -/
theorem pollRelease_cases {d : DState} (h : exec (.pollRelease d) s = .next t) :
    ((s.cfg.releaseMode = .level ∨ s.fsm.dstate = .handled) ∧
      ((s.ans.txr = .fault ∧ t = raiseErr .peripheralError (showFrame offWord (passEdges s))) ∨
      (s.ans.txr = .ok ∧ t = sleepThrough (rearm (showFrame offWord (passEdges s)))))) ∨
    (¬(s.cfg.releaseMode = .level ∨ s.fsm.dstate = .handled) ∧ t = sleepThrough (passEdges s)) := by
  by_cases hm : s.cfg.releaseMode = .level ∨ s.fsm.dstate = .handled
  · refine .inl ⟨hm, ?_⟩
    cases hx : s.ans.txr with
    | fault =>
      rw [exec_pollRelease_of_txFault hm hx] at h
      cases h
      exact .inl ⟨rfl, rfl⟩
    | ok =>
      rw [exec_pollRelease_of_txOk hm hx] at h
      cases h
      exact .inr ⟨rfl, rfl⟩
  · rw [exec_pollRelease_of_quiet hm] at h
    cases h
    exact .inr ⟨hm, rfl⟩

/-- The poll operations that are a cycle: all but POLL.DEAD. -/
abbrev IsPollCycle (i : Instr) : Prop := i = .pollPress ∨ i = .pollHold ∨ ∃ d, i = .pollRelease d

/-- The state `t` at the end of a poll cycle from `s`, or at a point within it: what the cycle never touches, and the
registers that its edges bring to rest. -/
structure WithinCycle (s t : State) : Prop where
  cfg : t.cfg = s.cfg
  pins : t.pins = s.pins
  ans : t.ans = s.ans
  units : t.units = s.units
  cuts : t.cuts = s.cuts
  stim : t.stim = s.stim
  startR : t.fsm.startR = false
  sync : t.fsm.sync.length = s.cfg.syncStages
  dout : t.ptx.dout = false
  done : t.ptx.done = false
  err : t.ptx.err = false
  busy : s.ptx.busy = false → t.ptx.busy = false
  phase : t.fsm.phase = s.fsm.phase ∨ t.fsm.phase = .fatal

theorem passEdges_withinCycle (s : State) : WithinCycle s (passEdges s) := by
  constructor <;> simp [ptxIdle]

/-- PTX is at rest after a shown frame, whatever its outcome. -/
theorem showFrame_ptx_at_rest (w : ColorWord) (s : State) :
    (showFrame w s).ptx.busy = false ∧ (showFrame w s).ptx.dout = false ∧ (showFrame w s).ptx.done = false ∧
      (showFrame w s).ptx.err = false := by
  rw [showFrame_ptx]
  cases s.ans.txr <;> exact ⟨rfl, rfl, rfl, rfl⟩

section
variable (h : WithinCycle s t)
include h

theorem WithinCycle.showFrame (w : ColorWord) : WithinCycle s (showFrame w t) := by
  obtain ⟨hbusy, hdout, hdone, herr⟩ := showFrame_ptx_at_rest w t
  exact { h with dout := hdout, done := hdone, err := herr, busy := fun _ => hbusy }

theorem WithinCycle.raiseErr (c : ErrCode) : WithinCycle s (raiseErr c t) := { h with phase := .inr rfl }

theorem WithinCycle.emitCmd (r : CmdResult) : WithinCycle s (emitCmd r t) := { h with }

theorem WithinCycle.advanceScene : WithinCycle s (advanceScene t) := { h with }

theorem WithinCycle.rearm : WithinCycle s (rearm t) := { h with }

theorem WithinCycle.sleepThrough : WithinCycle s (sleepThrough t) := { h with }

end

/-- Every poll cycle is made of operations that leave the rest. -/
theorem exec_withinCycle {i : Instr} (hi : IsPollCycle i) (h : exec i s = .next t) : WithinCycle s t := by
  have hpass := passEdges_withinCycle s
  rcases hi with rfl | rfl | ⟨d, rfl⟩
  · rcases pollPress_cases h with ⟨-, rfl⟩ | ⟨-, ⟨-, rfl⟩ | ⟨-, -, rfl⟩ | ⟨-, -, rfl⟩⟩
    · exact hpass.raiseErr _
    · exact (hpass.showFrame _).raiseErr _
    · exact ((hpass.showFrame _).emitCmd _).raiseErr _
    · exact ((hpass.showFrame _).emitCmd _).advanceScene.sleepThrough
  · cases h
    exact hpass.sleepThrough
  · rcases pollRelease_cases h with ⟨-, ⟨-, rfl⟩ | ⟨-, rfl⟩⟩ | ⟨-, rfl⟩
    · exact (hpass.showFrame _).raiseErr _
    · exact (hpass.showFrame _).rearm.sleepThrough
    · exact hpass.sleepThrough

/-- Only a press touches the scene (R283). -/
theorem exec_keeps_scene_of_cycle {i : Instr} (hi : IsPollCycle i) (hne : i ≠ .pollPress) (h : exec i s = .next t) :
    t.fsm.scene = s.fsm.scene := by
  rcases hi with rfl | rfl | ⟨d, rfl⟩
  · exact absurd rfl hne
  · cases h
    rfl
  · rcases pollRelease_cases h with ⟨-, ⟨-, rfl⟩ | ⟨-, rfl⟩⟩ | ⟨-, rfl⟩ <;> rfl

/-! ### The cycles without a frame -/

/-- `word_r` and PTX's word, place and work as they were. -/
abbrev KeepsFrame (s t : State) : Prop :=
  t.fsm.wordR = s.fsm.wordR ∧ t.ptx.word = s.ptx.word ∧ t.ptx.slot = s.ptx.slot ∧ t.ptx.phase = s.ptx.phase ∧
    t.ptx.cnt = s.ptx.cnt ∧ t.ptx.busy = s.ptx.busy

/-- A poll cycle shows a frame, which its trace tells, or leaves PTX's frame as it was. -/
theorem exec_shows_or_keeps {i : Instr} (hi : IsPollCycle i) (h : exec i s = .next t) :
    (∃ w r, s.trace ++ [.frame w r] <+: t.trace) ∨ KeepsFrame s t := by
  have hkeeps : KeepsFrame s (passEdges s) := ⟨rfl, rfl, rfl, rfl, rfl, rfl⟩
  rcases hi with rfl | rfl | ⟨d, rfl⟩
  · rcases pollPress_cases h with ⟨-, rfl⟩ | ⟨-, ⟨-, rfl⟩ | ⟨-, -, rfl⟩ | ⟨-, -, rfl⟩⟩
    · exact .inr hkeeps
    all_goals exact .inl ⟨feedbackWord s, s.ans.txr, by simp⟩
  · cases h
    exact .inr hkeeps
  · rcases pollRelease_cases h with ⟨-, ⟨-, rfl⟩ | ⟨-, rfl⟩⟩ | ⟨-, rfl⟩
    · exact .inl ⟨offWord, s.ans.txr, by simp⟩
    · exact .inl ⟨offWord, s.ans.txr, by simp⟩
    · exact .inr hkeeps

end

/-- Settles O26: every part of a cycle leaves the rest; a cycle that emits no frame event shows no frame. -/
theorem pollOperationsLeaveTheRest : Obligations.PollOperationsLeaveTheRest := by
  intro i s hi
  obtain ⟨t, h⟩ := exec_completes i s
  have hw := exec_withinCycle hi h
  refine ⟨t, h, hw.cfg, hw.pins, hw.ans, hw.units, hw.cuts, hw.stim, fun hne => exec_keeps_scene_of_cycle hi hne h,
    hw.startR, hw.sync, hw.dout, hw.done, hw.err, hw.busy, hw.phase, fun hno => ?_⟩
  rcases exec_shows_or_keeps hi h with ⟨w, r, es, htrace⟩ | hkeeps
  · have hframe : isFrame (.frame w r) = false := hno _ (by simp [← htrace])
    cases hframe
  · exact hkeeps

/-- Settles O25: POLL.DEAD's meaning is the state itself. -/
theorem deadChangesNothing : Obligations.DeadChangesNothing := fun _ _ _ => rfl

end Sys2Proof.Machine
end

section
/-! PROOFS. The registers stay in their ranges and relations (10_state.md R37, R38, R40, R42, R43, R45). -/

namespace Sys2Proof.Machine

/-! ### PTX -/

section
variable {s t : State}

/-- A PTX without a frame has only its count and its report to keep in range. -/
theorem ptxOk_of_idle (hcnt : s.ptx.cnt < maxPhaseTicks s.cfg) (hbusy : s.ptx.busy = false) (hlow : s.ptx.dout = false)
    (herr : s.ptx.err = true → s.ptx.done = true) : PtxOk s := by
  simpa [PtxOk, hcnt, hbusy, hlow] using herr

/-- A PTX with a frame in flight: where it stands, what the line shows, and no report. -/
theorem ptxOk_of_flight (hcnt : s.ptx.cnt < phaseTicks s.cfg s.ptx.word s.ptx.slot s.ptx.phase)
    (hgap : s.ptx.phase = .gap → s.ptx.slot = 23) (hbusy : s.ptx.busy = true)
    (hline : s.ptx.dout = true ↔ s.ptx.phase = .hi) (hdone : s.ptx.done = false) (herr : s.ptx.err = false) :
    PtxOk s := by
  have hmax := hcnt.trans_le (phaseTicks_le_max _ _ _ _)
  simpa [PtxOk, hmax, hcnt, hbusy, hline, hdone, herr] using hgap

/-- While a frame is in flight nothing is reported (R45). -/
theorem PtxOk.no_report (h : PtxOk s) (hbusy : s.ptx.busy = true) : s.ptx.done = false ∧ s.ptx.err = false := by
  obtain ⟨-, -, -, -, hdone, herr⟩ := h
  have hd : s.ptx.done = false := by
    rw [← Bool.not_eq_true]
    exact fun hd => absurd (hdone hd) (by simp [hbusy])
  exact ⟨hd, by rw [← Bool.not_eq_true]; exact fun he => absurd (herr he) (by simp [hd])⟩

section
variable (hok : PtxOk s) (hbusy : s.ptx.busy = true)
include hok hbusy

/-- Counting on within a phase. -/
theorem countTick_keeps_ptxOk {d : Bool} (hd : d = true ↔ s.ptx.phase = .hi)
    (hne : s.ptx.cnt + 1 ≠ phaseTicks s.cfg s.ptx.word s.ptx.slot s.ptx.phase) : PtxOk (countTick d s) := by
  obtain ⟨hdone, herr⟩ := hok.no_report hbusy
  obtain ⟨-, hcnt, hgap, -⟩ := hok
  exact ptxOk_of_flight (Nat.lt_of_le_of_ne (hcnt hbusy) hne) (hgap hbusy) hbusy hd hdone herr

/-- Entering a phase that has a length. -/
theorem enterPhase_keeps_ptxOk {ph : PtxPhase} {slot : Fin 24} {d : Bool} (hd : d = true ↔ ph = .hi)
    (hpos : 0 < phaseTicks s.cfg s.ptx.word slot ph) (hgap : ph = .gap → slot = 23) :
    PtxOk (enterPhase ph slot d s) := by
  obtain ⟨hdone, herr⟩ := hok.no_report hbusy
  exact ptxOk_of_flight hpos hgap hbusy hd hdone herr

omit hbusy in
theorem finishFrame_keeps_ptxOk : PtxOk (finishFrame s) :=
  ptxOk_of_idle hok.1 rfl rfl (by simp)

omit hbusy in
theorem abortFrame_keeps_ptxOk : PtxOk (abortFrame s) :=
  ptxOk_of_idle hok.1 rfl rfl (by simp)

variable (hc : cfgLegal s.cfg = true)
include hc

theorem runHi_keeps_ptxOk (hp : s.ptx.phase = .hi) : PtxOk (runHi s) := by
  have hTH : phaseTicks s.cfg s.ptx.word s.ptx.slot s.ptx.phase = thInFlight s := by rw [hp]; rfl
  by_cases hend : s.ptx.cnt + 1 = thInFlight s
  · rw [runHi_of_end hend]
    exact enterPhase_keeps_ptxOk hok hbusy (by simp) (lowTicks_pos hc _) (by simp)
  · rw [runHi_of_count hend]
    exact countTick_keeps_ptxOk hok hbusy (by simp [hp]) (hTH ▸ hend)

theorem runLo_keeps_ptxOk (hp : s.ptx.phase = .lo) : PtxOk (runLo s) := by
  have hTL : phaseTicks s.cfg s.ptx.word s.ptx.slot s.ptx.phase = tlInFlight s := by rw [hp]; rfl
  rcases lo_cases s with hne | ⟨hend, ⟨next, hn⟩ | ⟨hlast, hr⟩ | ⟨hlast, hr⟩⟩
  · rw [runLo_of_count hne]
    exact countTick_keeps_ptxOk hok hbusy (by simp [hp]) (hTL ▸ hne)
  · rw [runLo_of_nextSlot hend hn]
    exact enterPhase_keeps_ptxOk hok hbusy (by simp) (highTicks_pos hc _) (by simp)
  · rw [runLo_of_gap hend hlast hr]
    exact enterPhase_keeps_ptxOk hok hbusy (by simp) hr (fun _ => hlast)
  · rw [runLo_of_end hend hlast hr]
    exact finishFrame_keeps_ptxOk hok

omit hc in
theorem runGap_keeps_ptxOk (hp : s.ptx.phase = .gap) : PtxOk (runGap s) := by
  have hR : phaseTicks s.cfg s.ptx.word s.ptx.slot s.ptx.phase = s.cfg.resetTicks := by rw [hp]; rfl
  by_cases hend : s.ptx.cnt + 1 = s.cfg.resetTicks
  · rw [runGap_of_end hend]
    exact finishFrame_keeps_ptxOk hok
  · rw [runGap_of_count hend]
    exact countTick_keeps_ptxOk hok hbusy (by simp [hp]) (hR ▸ hend)

theorem execTxRun_keeps_ptxOk {start : Bool} (h : exec (.txRun start) s = .next t) : PtxOk t := by
  cases hp : s.ptx.phase with
  | hi =>
    cases (exec_txRun_of_hi hp start).symm.trans h
    exact runHi_keeps_ptxOk hok hbusy hc hp
  | lo =>
    cases (exec_txRun_of_lo hp start).symm.trans h
    exact runLo_keeps_ptxOk hok hbusy hc hp
  | gap =>
    cases (exec_txRun_of_gap hp start).symm.trans h
    exact runGap_keeps_ptxOk hok hbusy hp

end

/-- The operation PTXCTL selects keeps PTX in range. -/
theorem txOp_keeps_ptxOk {start fault : Bool} (hc : cfgLegal s.cfg = true) (hok : PtxOk s)
    (h : exec (ptxctlOp s.ptx.busy start fault) s = .next t) : PtxOk t := by
  cases hbusy : s.ptx.busy with
  | false =>
    rw [hbusy] at h
    cases start with
    | false =>
      cases h
      exact ptxOk_of_idle hok.1 hbusy rfl (by simp [ptxIdle])
    | true =>
      cases h
      exact ptxOk_of_flight (highTicks_pos hc _) (by simp) rfl (by simp) rfl rfl
  | true =>
    rw [hbusy] at h
    cases fault with
    | false => exact execTxRun_keeps_ptxOk hok hbusy hc h
    | true =>
      cases h
      exact abortFrame_keeps_ptxOk hok

/-- A frame shown by a poll operation has ended, with a count within its last phase. -/
theorem showFrame_ptxOk (hc : cfgLegal s.cfg = true) (w : ColorWord) : PtxOk (showFrame w s) := by
  obtain ⟨hbusy, hdout, -, herr⟩ := showFrame_ptx_at_rest w s
  refine ptxOk_of_idle ?_ hbusy hdout (fun he => absurd (herr.symm.trans he) Bool.false_ne_true)
  rw [showFrame_ptx]
  cases s.ans.txr with
  | ok =>
    have hlow := lowTicks_pos hc (slotSym w 23)
    have hmax : lowTicks s.cfg (slotSym w 23) ≤ maxPhaseTicks s.cfg := phaseTicks_le_max s.cfg w 23 .lo
    have hgap : s.cfg.resetTicks ≤ maxPhaseTicks s.cfg := phaseTicks_le_max s.cfg w 23 .gap
    simp only [ptxAfterFrame, showFrame_cfg]
    split <;> omega
  | fault => exact (Nat.mod_lt _ (cutPhase_ticks_pos hc _ _ _)).trans_le (phaseTicks_le_max _ _ _ _)

end

/-! ### The shared operations -/

section
variable {s t : State}

/-- The invariant speaks of the registers, the wires and the configuration only. -/
theorem regsOk_congr (hc : t.cfg = s.cfg) (hf : t.fsm = s.fsm) (hp : t.ptx = s.ptx) (hu : t.units = s.units)
    (h : RegsOk s) : RegsOk t := by
  unfold RegsOk ShapeOk FsmOk PtxOk
  rw [hc, hf, hp, hu]
  exact h

/-- An FSM that is not fatal has no error code (R38). -/
theorem fsmOk_of_live (herr : s.fsm.errCode = .none) (hlive : s.fsm.phase ≠ .fatal)
    (hcnt : s.fsm.sleepCnt < pollTicks s.cfg) : FsmOk s :=
  ⟨iff_of_true herr hlive, hcnt⟩

theorem raiseErr_keeps_regsOk {c : ErrCode} (hc : c ≠ .none) (h : RegsOk s) : RegsOk (raiseErr c s) := by
  obtain ⟨hshape, ⟨-, hcnt⟩, hptx⟩ := h
  exact ⟨hshape, ⟨by simp [hc], hcnt⟩, hptx⟩

theorem emitCmd_keeps_regsOk {r : CmdResult} (h : RegsOk s) : RegsOk (emitCmd r s) := h

theorem advanceScene_keeps_regsOk (h : RegsOk s) : RegsOk (advanceScene s) := h

theorem rearm_keeps_regsOk (h : RegsOk s) : RegsOk (rearm s) := h

theorem afterEdge_keeps_regsOk (h : RegsOk s) : RegsOk (afterEdge s) := h

section
variable (h : RegsOk s) (hlive : s.fsm.phase ≠ .fatal)
include h hlive

theorem goto_keeps_regsOk {ph : Phase} (hph : ph ≠ .fatal) : RegsOk (goto ph s) := by
  obtain ⟨hshape, ⟨herr, hcnt⟩, hptx⟩ := h
  exact ⟨hshape, fsmOk_of_live (herr.mpr hlive) hph hcnt, hptx⟩

theorem requestFrame_keeps_regsOk {w : ColorWord} {ph : Phase} (hph : ph ≠ .fatal) : RegsOk (requestFrame w ph s) := by
  obtain ⟨hshape, ⟨herr, hcnt⟩, hptx⟩ := h
  exact ⟨hshape, fsmOk_of_live (herr.mpr hlive) hph hcnt, hptx⟩

theorem enterSleep_keeps_regsOk (hc : cfgLegal s.cfg = true) : RegsOk (enterSleep s) := by
  obtain ⟨hshape, ⟨herr, -⟩, hptx⟩ := h
  exact ⟨hshape, fsmOk_of_live (herr.mpr hlive) (by simp) (pollTicks_pos hc), hptx⟩

end

theorem sleepThrough_keeps_regsOk (hc : cfgLegal s.cfg = true) (h : RegsOk s) : RegsOk (sleepThrough s) := by
  obtain ⟨hshape, ⟨herr, -⟩, hptx⟩ := h
  exact ⟨hshape, ⟨herr, Nat.sub_lt (pollTicks_pos hc) Nat.one_pos⟩, hptx⟩

theorem passEdges_keeps_regsOk (hidle : s.ptx.busy = false) (h : RegsOk s) : RegsOk (passEdges s) := by
  obtain ⟨⟨-, hframe⟩, hfsm, hptx⟩ := h
  exact ⟨⟨by simp, hframe⟩, hfsm, ptxOk_of_idle hptx.1 hidle rfl (by simp [ptxIdle])⟩

theorem showFrame_keeps_regsOk (hc : cfgLegal s.cfg = true) {w : ColorWord} (h : RegsOk s) :
    RegsOk (showFrame w s) := by
  obtain ⟨hshape, hfsm, -⟩ := h
  exact ⟨hshape, hfsm, showFrame_ptxOk hc w⟩

/-- The reset values are in range (R51). -/
theorem regsOk_of_reset (hc : cfgLegal s.cfg = true) (hf : s.fsm = fsmReset s.cfg) (hp : s.ptx = ptxReset)
    (hframe : s.units.frame.length = 24) : RegsOk s := by
  have hpoll : 0 < pollTicks s.cfg := pollTicks_pos hc
  have hmax : 0 < maxPhaseTicks s.cfg :=
    Nat.lt_of_lt_of_le (highTicks_pos hc (slotSym 0#24 0)) (phaseTicks_le_max s.cfg 0#24 0 .hi)
  refine ⟨⟨?_, hframe⟩, fsmOk_of_live ?_ ?_ ?_, ptxOk_of_idle ?_ ?_ ?_ ?_⟩
  all_goals simp [hf, hp, fsmReset, ptxReset, hmax, hpoll]

end

/-! ### The operations and the edges -/

section
variable {s t : State} (hc : cfgLegal s.cfg = true) (h : RegsOk s)
include hc h

theorem execRst_keeps_regsOk (hrun : exec .rst s = .next t) : RegsOk t := by
  rw [exec_rst] at hrun
  cases hrun
  obtain ⟨⟨-, hframe⟩, -⟩ := h
  exact regsOk_of_reset hc rfl rfl hframe

section
variable (hidle : s.ptx.busy = false)
include hidle

theorem execPollPress_keeps_regsOk (hrun : exec .pollPress s = .next t) : RegsOk t := by
  have hpass := passEdges_keeps_regsOk hidle h
  have hshow := showFrame_keeps_regsOk (s := passEdges s) hc (w := feedbackWord s) hpass
  rcases pollPress_cases hrun with ⟨-, rfl⟩ | ⟨-, ⟨-, rfl⟩ | ⟨-, -, rfl⟩ | ⟨-, -, rfl⟩⟩
  · exact raiseErr_keeps_regsOk (by simp) hpass
  · exact raiseErr_keeps_regsOk (by simp) hshow
  · exact raiseErr_keeps_regsOk (by simp) (emitCmd_keeps_regsOk hshow)
  · exact sleepThrough_keeps_regsOk hc (advanceScene_keeps_regsOk (emitCmd_keeps_regsOk hshow))

theorem execPollRelease_keeps_regsOk {d : DState} (hrun : exec (.pollRelease d) s = .next t) : RegsOk t := by
  have hpass := passEdges_keeps_regsOk hidle h
  have hshow := showFrame_keeps_regsOk (s := passEdges s) hc (w := offWord) hpass
  rcases pollRelease_cases hrun with ⟨-, ⟨-, rfl⟩ | ⟨-, rfl⟩⟩ | ⟨-, rfl⟩
  · exact raiseErr_keeps_regsOk (by simp) hshow
  · exact sleepThrough_keeps_regsOk hc (rearm_keeps_regsOk hshow)
  · exact sleepThrough_keeps_regsOk hc hpass

theorem pollStep_keeps_regsOk {lvl : Bool} {txr : TxResult} {cmdr : CmdResult}
    (hrun : pollStep lvl txr cmdr s = .next t) : RegsOk t := by
  rw [pollStep] at hrun
  rcases pollSelected_cases s lvl with ⟨-, -, -, hi⟩ | ⟨-, -, -, hi⟩ | ⟨-, -, hi⟩ | ⟨-, hi⟩ <;> rw [hi] at hrun
  · exact execPollPress_keeps_regsOk (s := { s with ans := ⟨txr, cmdr⟩ }) hc h hidle hrun
  · cases hrun
    exact sleepThrough_keeps_regsOk hc (passEdges_keeps_regsOk (s := { s with ans := ⟨txr, cmdr⟩ }) hidle h)
  · exact execPollRelease_keeps_regsOk (s := { s with ans := ⟨txr, cmdr⟩ }) hc h hidle hrun
  · cases hrun
    exact h

end

/-- The branch of the FSM's rule keeps the registers in range, from a state `t` with the FSM registers of the edge. -/
theorem fsmRuns_keeps_regsOk {lvl : Bool} {r : State} (hbase : t.fsm = edgeBase s) (hcfg : t.cfg = s.cfg)
    (ht : RegsOk t) (hrun : FsmRuns lvl s t r) : RegsOk r := by
  have hct : cfgLegal t.cfg = true := hcfg ▸ hc
  have hphase : t.fsm.phase = s.fsm.phase := by simp [hbase]
  cases hrun with
  | invalid | frameFault => exact raiseErr_keeps_regsOk (by simp) ht
  | sendErr => exact raiseErr_keeps_regsOk (by simp) (emitCmd_keeps_regsOk ht)
  | press hp | off hp => exact requestFrame_keeps_regsOk ht (by simp [hphase, hp]) (by simp)
  | quiet hp => exact enterSleep_keeps_regsOk ht (by simp [hphase, hp]) hct
  | frameWait | sendWait | dead => exact ht
  | shownPress hp | wake hp => exact goto_keeps_regsOk ht (by simp [hphase, hp]) (by simp)
  | shownRelease hp => exact enterSleep_keeps_regsOk (rearm_keeps_regsOk ht) (by simp [hphase, hp]) hct
  | sent hp =>
    exact enterSleep_keeps_regsOk (advanceScene_keeps_regsOk (emitCmd_keeps_regsOk ht)) (by simp [hphase, hp]) hct
  | sleep hp hcount =>
    obtain ⟨-, ⟨-, hcnt⟩, -⟩ := h
    obtain ⟨hshape, ⟨herr, -⟩, hptx⟩ := ht
    refine ⟨hshape, ⟨herr, ?_⟩, hptx⟩
    rw [← hcfg] at hcnt hcount
    exact Nat.lt_of_le_of_ne hcnt hcount

/-- PTX's operation and the shift, which every edge but a reset's makes. -/
theorem shiftSync_keeps_regsOk {start fault : Bool} {w : ColorWord}
    (hrun : exec (ptxctlOp s.ptx.busy start fault) { s with fsm := { s.fsm with wordR := w } } = .next t) :
    RegsOk (shiftSync s t) := by
  obtain ⟨⟨hsync, hframe⟩, hfsm, hptx⟩ := h
  have hp : PtxOk t := txOp_keeps_ptxOk (s := { s with fsm := { s.fsm with wordR := w } }) hc hptx hrun
  rw [txOp_leaves_rest hrun] at hp ⊢
  exact ⟨⟨by simp [hsync], hframe⟩, hfsm, hp⟩

theorem clockEdge_keeps_regsOk (hrun : clockEdge s = .next t) : RegsOk t := by
  rcases clockEdge_cases hrun with ⟨-, u, hu, rfl⟩ | ⟨-, u, hu, rfl⟩
  · exact afterEdge_keeps_regsOk (execRst_keeps_regsOk hc h hu)
  · obtain ⟨lvl, p, -, hp, rfl⟩ := runEdge_cases hu
    exact afterEdge_keeps_regsOk (fsmRuns_keeps_regsOk hc h (shiftSync_fsm_of_ptx hp) (exec_keeps_cfg hp :)
      (shiftSync_keeps_regsOk hc h hp) (fsmEdge_runs lvl s _))

theorem ptxOnlyEdge_keeps_regsOk {start : Option ColorWord} {fault : Bool}
    (hrun : ptxOnlyEdge start fault s = .next t) : RegsOk t := by
  obtain ⟨p, hp, rfl⟩ := ptxOnlyEdge_cases hrun
  exact afterEdge_keeps_regsOk (shiftSync_keeps_regsOk hc h hp)

end

/-- An operand word changes the units' wires, and every frame of ENC has 24 slots. -/
theorem runOperand_frame_length {f : UnitFormat} {w : Nat} {s t : State} (h : runOperand f w s = .next t)
    (hframe : s.units.frame.length = 24) : t.units.frame.length = 24 := by
  obtain ⟨i, hi, hrun, -⟩ := runOperand_cases h
  obtain ⟨-, hi⟩ := decode_eq_op hi
  cases f <;> simp only [unitFormat, decodeFitting, Decoded.op.injEq] at hi
  case sym =>
    split at hi
    all_goals
      subst hi
      cases hrun
      exact hframe
  case frame24 =>
    rw [← hi, exec_enc, Host.Outcome.next.injEq] at hrun
    simp only [← hrun, encFrame_length]
  all_goals
    subst hi
    cases hrun
    exact hframe

/-- Settles O42: whatever a step runs, an edge, a poll cycle, RST or an operand, keeps the ranges. -/
theorem stepKeepsRegisterRanges : Obligations.StepKeepsRegisterRanges := by
  intro s t hs h
  obtain ⟨hlegal, -⟩ := step_cases h
  obtain ⟨s', htake, hruns⟩ := step_runs h
  obtain ⟨hcfg, hfsm, hptx, hunits, -⟩ := htake.registers
  have hc : cfgLegal s'.cfg = true := hcfg ▸ hlegal
  have hs' : RegsOk s' := regsOk_congr hcfg hfsm hptx hunits hs
  cases hruns with
  | edge _ hrun => exact clockEdge_keeps_regsOk hc hs' hrun
  | rst _ _ hrun =>
    obtain ⟨u, hu, rfl⟩ := mapNext_eq_next hrun
    exact afterEdge_keeps_regsOk (execRst_keeps_regsOk hc hs' hu)
  | ptxEdge _ start fault u hrun ht =>
    rw [ht]
    exact (ptxOnlyEdge_keeps_regsOk hc hs' hrun :)
  | poll _ lvl txr cmdr _ _ hidle u hrun ht =>
    rw [ht]
    exact afterEdge_keeps_regsOk (pollStep_keeps_regsOk hc hs' (hptx ▸ hidle) hrun)
  | operand _ ht f w hrun =>
    obtain ⟨⟨hsync, hframe⟩, hrest⟩ := hs'
    have hframe' := runOperand_frame_length hrun hframe
    rw [ht]
    exact ⟨⟨hsync, hframe'⟩, hrest⟩
  | skip _ ht =>
    rw [ht]
    exact hs'

end Sys2Proof.Machine
end

section
/-! PROOFS. FSM and PTX in step: the handshake of a frame (43_input_fsm.md R290, R292, R293, R305). -/

namespace Sys2Proof.Machine

/-! ### The invariant, phase by phase -/

section
variable {s t : State}

theorem handshake_showP_iff (hp : s.fsm.phase = .showP) :
    Handshake s ↔ PtxServing s ∧ s.fsm.dstate = .idle ∧ s.fsm.wordR = feedbackWord s := by
  simp only [Handshake, hp]

theorem handshake_send_iff (hp : s.fsm.phase = .send) : Handshake s ↔ PtxFree s ∧ s.fsm.dstate = .idle := by
  simp only [Handshake, hp]

theorem handshake_showR_iff (hp : s.fsm.phase = .showR) :
    Handshake s ↔
      PtxServing s ∧ (s.cfg.releaseMode = .level ∨ s.fsm.dstate = .handled) ∧ s.fsm.wordR = offWord := by
  simp only [Handshake, hp]

theorem handshake_free_iff (hp : s.fsm.phase = .sample ∨ s.fsm.phase = .sleep ∨ s.fsm.phase = .fatal) :
    Handshake s ↔ PtxFree s := by
  rcases hp with hp | hp | hp <;> simp only [Handshake, hp]

/-- In SHOW_P and SHOW_R PTX serves a frame. -/
theorem Handshake.serving (h : Handshake s) (hp : s.fsm.phase = .showP ∨ s.fsm.phase = .showR) : PtxServing s := by
  rcases hp with hp | hp
  · exact ((handshake_showP_iff hp).mp h).1
  · exact ((handshake_showR_iff hp).mp h).1

/-- In every other phase PTX is free. -/
theorem Handshake.free (h : Handshake s) (hp : s.fsm.phase ≠ .showP) (hr : s.fsm.phase ≠ .showR) : PtxFree s := by
  cases hphase : s.fsm.phase with
  | showP => exact absurd hphase hp
  | showR => exact absurd hphase hr
  | send => exact ((handshake_send_iff hphase).mp h).1
  | _ => exact (handshake_free_iff (by simp [hphase])).mp h

/-- The invariant speaks of the registers and the configuration only. -/
theorem handshake_congr (hc : t.cfg = s.cfg) (hf : t.fsm = s.fsm) (hp : t.ptx = s.ptx) (h : Handshake s) :
    Handshake t := by
  unfold Handshake PtxServing PtxFree
  rw [feedbackWord_congr hc (by rw [hf]), hc, hf, hp]
  exact h

theorem afterEdge_keeps_handshake (h : Handshake s) : Handshake (afterEdge s) :=
  handshake_congr (s := s) rfl rfl rfl h

/-- The levels of the pins and the queue are no part of the handshake. -/
theorem handshake_of_inputs (h : Handshake s) (p : Pins) (q : List Line) (low : Bool) :
    Handshake { s with pins := p, stim := q, rstLow := low } :=
  handshake_congr (s := s) rfl rfl rfl h

/-! ### What an edge makes of a free and of a serving PTX -/

/-- Everything one clock period of a frame can do: it goes on, or the frame ends. -/
theorem execTxRun_cases {start : Bool} (h : exec (.txRun start) s = .next t) :
    (t.ptx.busy = s.ptx.busy ∧ t.ptx.done = s.ptx.done ∧ t.ptx.word = s.ptx.word ∧ t.trace = s.trace) ∨
      t = finishFrame s := by
  cases hp : s.ptx.phase with
  | hi =>
    rw [exec_txRun_of_hi hp, runHi] at h
    cases h
    split <;> exact .inl ⟨rfl, rfl, rfl, rfl⟩
  | lo =>
    rw [exec_txRun_of_lo hp] at h
    cases h
    rcases lo_cases s with hne | ⟨hend, ⟨next, hn⟩ | ⟨hlast, hr⟩ | ⟨hlast, hr⟩⟩
    · rw [runLo_of_count hne]
      exact .inl ⟨rfl, rfl, rfl, rfl⟩
    · rw [runLo_of_nextSlot hend hn]
      exact .inl ⟨rfl, rfl, rfl, rfl⟩
    · rw [runLo_of_gap hend hlast hr]
      exact .inl ⟨rfl, rfl, rfl, rfl⟩
    · exact .inr (runLo_of_end hend hlast hr)
  | gap =>
    rw [exec_txRun_of_gap hp, runGap] at h
    cases h
    split
    · exact .inr rfl
    · exact .inl ⟨rfl, rfl, rfl, rfl⟩

/-- The events of a frame that has been reported: one, with its outcome. -/
def reportedFrame (s : State) : List Event :=
  if s.ptx.done then [.frame s.fsm.wordR (if s.ptx.err then .fault else .ok)] else []

section
variable {fault : Bool} {p : State} (hrun : exec (ptxSelected s fault) s = .next p)
include hrun

/-- After a reported frame, and while it is free, PTX runs TX.IDLE, which takes the report back (42 R221). -/
theorem shiftSync_free (hstart : s.fsm.startR = false) (hbusy : s.ptx.busy = false) :
    PtxFree (shiftSync s p) ∧ p.trace = s.trace := by
  rw [ptxSelected_eq_txIdle hbusy hstart, exec_txIdle] at hrun
  cases hrun
  exact ⟨⟨rfl, hbusy, rfl⟩, rfl⟩

/-- A requested frame starts (42 R222). -/
theorem shiftSync_serving_of_request (hstart : s.fsm.startR = true) (hbusy : s.ptx.busy = false) :
    PtxServing (shiftSync s p) ∧ p.trace = s.trace ++ reportedFrame (shiftSync s p) := by
  rw [ptxSelected_eq_txStart hbusy hstart, exec_txStart] at hrun
  cases hrun
  exact ⟨.inr (.inl ⟨rfl, rfl, rfl, rfl⟩), (List.append_nil _).symm⟩

/-- A frame in flight goes on, or ends with a report of its word: at its last clock period without an error, at a fault
with one (42 R224, R228). -/
theorem shiftSync_serving_of_flight (hbusy : s.ptx.busy = true) (hdone : s.ptx.done = false)
    (hword : s.ptx.word = s.fsm.wordR) :
    PtxServing (shiftSync s p) ∧ p.trace = s.trace ++ reportedFrame (shiftSync s p) := by
  cases fault with
  | false =>
    rw [ptxSelected_eq_txRun hbusy] at hrun
    have hp := txOp_leaves_rest (busy := true) (fault := false) hrun
    rcases execTxRun_cases hrun with ⟨hbusy', hdone', hword', htrace⟩ | rfl
    · refine ⟨.inr (.inl ⟨rfl, hbusy'.trans hbusy, hdone'.trans hdone, ?_⟩), ?_⟩
      · rw [hp]
        exact hword'.trans hword
      · simp [reportedFrame, hdone', hdone, htrace]
    · exact ⟨.inr (.inr ⟨rfl, rfl, rfl, hword⟩), by simp [reportedFrame, hword]⟩
  | true =>
    rw [ptxSelected_eq_txFault hbusy, exec_txFault] at hrun
    cases hrun
    exact ⟨.inr (.inr ⟨rfl, rfl, rfl, hword⟩), by simp [reportedFrame, hword]⟩

/-- A PTX that serves a frame without a report goes on serving it. -/
theorem shiftSync_serving (hserve : PtxServing s) (hdone : s.ptx.done = false) :
    PtxServing (shiftSync s p) ∧ p.trace = s.trace ++ reportedFrame (shiftSync s p) := by
  rcases hserve with ⟨hstart, hbusy, -⟩ | ⟨-, hbusy, -, hword⟩ | ⟨-, -, hreport, -⟩
  · exact shiftSync_serving_of_request hrun hstart hbusy
  · exact shiftSync_serving_of_flight hrun hbusy hdone hword
  · exact absurd hreport (by simp [hdone])

/-- A PTX that has reported its frame becomes free. -/
theorem shiftSync_free_of_report (hserve : PtxServing s) (hdone : s.ptx.done = true) :
    PtxFree (shiftSync s p) ∧ p.trace = s.trace := by
  rcases hserve with ⟨-, -, hno⟩ | ⟨-, -, hno, -⟩ | ⟨hstart, hbusy, -⟩
  · exact absurd hno (by simp [hdone])
  · exact absurd hno (by simp [hdone])
  · exact shiftSync_free hrun hstart hbusy

end

/-- `b` is `s` after PTX's operation and the shift of an edge: the FSM registers stay but for the shift, a free PTX
stays free, one that serves a frame goes on until it has reported it, and then becomes free; the report is the one event. -/
structure PtxEdge (s b : State) : Prop where
  fsm : b.fsm = edgeBase s
  cfg : b.cfg = s.cfg
  free : PtxFree s → PtxFree b ∧ b.trace = s.trace
  reported : PtxServing s → s.ptx.done = true → PtxFree b ∧ b.trace = s.trace
  serving : PtxServing s → s.ptx.done = false → PtxServing b ∧ b.trace = s.trace ++ reportedFrame b

theorem shiftSync_ptxEdge {fault : Bool} {p : State} (hp : exec (ptxSelected s fault) s = .next p) :
    PtxEdge s (shiftSync s p) where
  fsm := shiftSync_fsm_of_ptx hp
  cfg := (exec_keeps_cfg hp :)
  free := fun ⟨hstart, hbusy, _⟩ => shiftSync_free hp hstart hbusy
  reported := shiftSync_free_of_report hp
  serving := shiftSync_serving hp

/-! ### The edges and the lines -/

/-- The FSM's rule keeps the handshake, whatever branch runs. -/
theorem fsmRuns_keeps_handshake {lvl : Bool} {b r : State} (h : Handshake s) (hb : PtxEdge s b)
    (hrun : FsmRuns lvl s b r) : Handshake r := by
  have hfree : s.fsm.phase ≠ .showP → s.fsm.phase ≠ .showR → PtxFree b := fun hnp hnr =>
    (hb.free (h.free hnp hnr)).1
  have hreported : s.fsm.phase = .showP ∨ s.fsm.phase = .showR → s.ptx.done = true → PtxFree b :=
    fun hshow hdone => (hb.reported (h.serving hshow) hdone).1
  have hfsm := hb.fsm
  have hcfg := hb.cfg
  cases hrun with
  | invalid hphase | sendErr hphase =>
    exact (handshake_free_iff (.inr (.inr rfl))).mpr (hfree (by simp [hphase]) (by simp [hphase]))
  | quiet hphase | sent hphase =>
    exact (handshake_free_iff (.inr (.inl rfl))).mpr (hfree (by simp [hphase]) (by simp [hphase]))
  | wake hphase => exact (handshake_free_iff (.inl rfl)).mpr (hfree (by simp [hphase]) (by simp [hphase]))
  | sleep hphase =>
    exact (handshake_free_iff (.inr (.inl (by simp [hfsm, hphase])))).mpr
      (hfree (by simp [hphase]) (by simp [hphase]))
  | dead hphase =>
    exact (handshake_free_iff (.inr (.inr (by simp [hfsm, hphase])))).mpr (hfree (by simp [hphase]) (by simp [hphase]))
  | frameFault hphase hdone => exact (handshake_free_iff (.inr (.inr rfl))).mpr (hreported hphase hdone)
  | shownRelease hphase hdone =>
    exact (handshake_free_iff (.inr (.inl rfl))).mpr (hreported (.inr hphase) hdone)
  | shownPress hphase hdone =>
    obtain ⟨-, hd, -⟩ := (handshake_showP_iff hphase).mp h
    exact (handshake_send_iff rfl).mpr ⟨hreported (.inl hphase) hdone, by simp [hfsm, hd]⟩
  | sendWait hphase =>
    obtain ⟨-, hd⟩ := (handshake_send_iff hphase).mp h
    exact (handshake_send_iff (by simp [hfsm, hphase])).mpr
      ⟨hfree (by simp [hphase]) (by simp [hphase]), by simp [hfsm, hd]⟩
  | press hphase _ hd =>
    obtain ⟨-, hbusy, hdone⟩ := hfree (by simp [hphase]) (by simp [hphase])
    exact (handshake_showP_iff rfl).mpr ⟨.inl ⟨rfl, hbusy, hdone⟩, by simp [hfsm, hd],
      (feedbackWord_congr hcfg (by simp [hfsm])).symm⟩
  | off hphase ho =>
    obtain ⟨-, hbusy, hdone⟩ := hfree (by simp [hphase]) (by simp [hphase])
    exact (handshake_showR_iff rfl).mpr ⟨.inl ⟨rfl, hbusy, hdone⟩, by simpa [hcfg, hfsm] using ho.2, rfl⟩
  | frameWait hphase hdone =>
    obtain ⟨hserve, -⟩ := hb.serving (h.serving hphase) hdone
    rcases hphase with hphase | hphase
    · obtain ⟨-, hd, hw⟩ := (handshake_showP_iff hphase).mp h
      exact (handshake_showP_iff (by simp [hfsm, hphase])).mpr ⟨hserve, by simp [hfsm, hd],
        by simp [feedbackWord_congr hcfg, hfsm, hw]⟩
    · obtain ⟨-, hm, hw⟩ := (handshake_showR_iff hphase).mp h
      exact (handshake_showR_iff (by simp [hfsm, hphase])).mpr
        ⟨hserve, by simpa [hcfg, hfsm] using hm, by simp [hfsm, hw]⟩

/-- The reset state is in step. -/
theorem handshake_of_reset (hf : s.fsm = fsmReset s.cfg) (hp : s.ptx = ptxReset) : Handshake s :=
  (handshake_free_iff (.inl (by rw [hf]; rfl))).mpr ⟨by rw [hf]; rfl, by rw [hp]; rfl, by rw [hp]; rfl⟩

theorem execRst_handshake (hrun : exec .rst s = .next t) : Handshake t := by
  rw [exec_rst] at hrun
  cases hrun
  exact handshake_of_reset rfl rfl

theorem clockEdge_keeps_handshake (h : Handshake s) (hrun : clockEdge s = .next t) : Handshake t := by
  rcases clockEdge_cases hrun with ⟨-, u, hu, rfl⟩ | ⟨-, u, hu, rfl⟩
  · exact afterEdge_keeps_handshake (execRst_handshake hu)
  · obtain ⟨lvl, p, -, hp, rfl⟩ := runEdge_cases hu
    exact afterEdge_keeps_handshake (fsmRuns_keeps_handshake h (shiftSync_ptxEdge hp) (fsmEdge_runs lvl s _))

theorem atPollPoint_eq_true : atPollPoint s = true ↔ s.fsm.phase = .sample ∨ s.fsm.phase = .fatal :=
  decide_eq_true_iff

theorem Handshake.free_of_atPollPoint (h : Handshake s) (hpoint : atPollPoint s = true) : PtxFree s :=
  (handshake_free_iff ((atPollPoint_eq_true.mp hpoint).imp_right .inr)).mp h

/-- A poll cycle ends at a poll point, with PTX free. -/
theorem pollStep_keeps_handshake {lvl : Bool} {txr : TxResult} {cmdr : CmdResult} (h : Handshake s)
    (hpoint : atPollPoint s = true) (hrun : pollStep lvl txr cmdr s = .next t) : Handshake t := by
  have hcycle : IsPollCycle (pollSelected s lvl) → Handshake t := fun hi => by
    have hw := exec_withinCycle hi hrun
    have hphase : t.fsm.phase = .sample ∨ t.fsm.phase = .sleep ∨ t.fsm.phase = .fatal := by
      rcases hw.phase with he | he
      · rw [he]
        exact (atPollPoint_eq_true.mp hpoint).imp_right .inr
      · exact .inr (.inr he)
    obtain ⟨-, hbusy, -⟩ := h.free_of_atPollPoint hpoint
    exact (handshake_free_iff hphase).mpr ⟨hw.startR, hw.busy hbusy, hw.done⟩
  rcases pollSelected_cases s lvl with ⟨-, -, -, hi⟩ | ⟨-, -, -, hi⟩ | ⟨-, -, hi⟩ | ⟨-, hi⟩
  · exact hcycle (.inl hi)
  · exact hcycle (.inr (.inl hi))
  · exact hcycle (.inr (.inr ⟨_, hi⟩))
  · rw [pollStep, hi] at hrun
    cases hrun
    exact handshake_congr rfl rfl rfl h

/-- A line that drives the whole block keeps the handshake, and the line it may put back is itself. -/
theorem runLine_keeps_handshake {l : Line} (h : Handshake s) (hl : wholeBlock l = true)
    (hw : s.stim.all wholeBlock = true) (hrun : runLine l s = .next t) :
    Handshake t ∧ t.stim.all wholeBlock = true := by
  cases l with
  | rst =>
    obtain ⟨u, hu, rfl, -⟩ := resetLine_cases hrun
    obtain ⟨-, -, -, hstim, -⟩ := exec_leaves_inputs hu
    exact ⟨afterEdge_keeps_handshake (execRst_handshake hu), by rw [afterEdge_stim, hstim, hw]⟩
  | poll lvl txr cmdr =>
    rcases runLine_poll_cases hrun with ⟨-, hedge⟩ | ⟨hpoint, hbusy, -⟩ | ⟨hpoint, -, u, hu, rfl⟩
    · obtain ⟨-, hstim⟩ := clockEdge_leaves_inputs hedge
      exact ⟨clockEdge_keeps_handshake (handshake_of_inputs h _ _ _) hedge, by simpa [hstim, wholeBlock] using hw⟩
    · obtain ⟨-, hidle, -⟩ := h.free_of_atPollPoint hpoint
      exact absurd hbusy (by simp [hidle])
    · obtain ⟨-, -, -, hstim, -⟩ := exec_leaves_inputs hu
      exact ⟨afterEdge_keeps_handshake (pollStep_keeps_handshake h hpoint hu), by rw [afterEdge_stim, hstim, hw]⟩
  | operand f word =>
    obtain ⟨-, -, -, ht⟩ := runOperand_cases hrun
    rw [ht]
    exact ⟨handshake_congr rfl rfl rfl h, hw⟩
  | tx _ | untilDone | wait _ | ptxEdge _ _ => cases hl
  | edge p =>
    obtain ⟨-, hstim⟩ := clockEdge_leaves_inputs hrun
    exact ⟨clockEdge_keeps_handshake (handshake_of_inputs h p _ false) hrun, by rw [hstim, hw]⟩

end

/-- Settles O43: with no line queued a step is a clock edge; else it is the next line, which drives the whole block. -/
theorem stepKeepsHandshake : Obligations.StepKeepsHandshake := by
  intro s t h hw hstep
  obtain ⟨-, hrun⟩ := step_cases hstep
  rw [runNext] at hrun
  split at hrun
  next =>
    obtain ⟨-, hstim⟩ := clockEdge_leaves_inputs hrun
    exact ⟨clockEdge_keeps_handshake h hrun, by rw [hstim, hw]⟩
  next l rest hs =>
    rw [hs, List.all_cons, Bool.and_eq_true] at hw
    exact runLine_keeps_handshake (handshake_of_inputs h _ rest _) hw.1 hw.2 hrun

/-- Settles O39: a request is made in SHOW_P or SHOW_R only, and there a request finds PTX idle. -/
theorem startRequestsAreNeverIgnored : Obligations.StartRequestsAreNeverIgnored := by
  intro s fault h hstart
  have hbusy : s.ptx.busy = false := by
    by_cases hshow : s.fsm.phase = .showP ∨ s.fsm.phase = .showR
    · rcases h.serving hshow with ⟨-, hbusy, -⟩ | ⟨hno, -⟩ | ⟨hno, -⟩
      · exact hbusy
      all_goals exact absurd hstart (by simp [hno])
    · obtain ⟨hnp, hnr⟩ := not_or.mp hshow
      exact (h.free hnp hnr).2.1
  exact ptxSelected_eq_txStart hbusy hstart fault

/-- Settles O44: the reset values are in range, and PTX is free in SAMPLE. -/
theorem resetMeetsTheInvariants : Obligations.ResetMeetsTheInvariants := fun c hc =>
  ⟨regsOk_of_reset (s := State.resetWith c) hc rfl rfl offFrame_length, handshake_of_reset rfl rfl, rfl⟩

end Sys2Proof.Machine
end

section
/-! PROOFS. What changes the scene, which inputs are heard, the line `RST`, the synchronizer's shift, and the operation
a step runs (10_state.md R34, R40; 30_encoding.md R112, R115; 60_exceptions.md R345). -/

namespace Sys2Proof.Machine

/-! ### The scene (10_state.md R34, 43_input_fsm.md R283) -/

/-- Only the acknowledged command advances the scene. -/
theorem fsmRuns_scene {lvl : Bool} {s b r : State} (h : FsmRuns lvl s b r) :
    r.fsm.scene = b.fsm.scene ∨
      (s.fsm.phase = .send ∧ s.pins.cmdAck = true ∧ s.pins.cmdErr = false ∧
        r = enterSleep (advanceScene (emitCmd .ok b))) := by
  cases h with
  | sent hphase hack herr => exact .inr ⟨hphase, hack, herr, rfl⟩
  | _ => exact .inl rfl

/-- What a press that raised no error has done, seen from the scene before it. -/
abbrev SceneAdvanced (s t : State) : Prop :=
  t.fsm.scene = s.fsm.scene ^^^ 1#1 ∧ t.fsm.dstate = .handled ∧ t.fsm.phase ≠ .fatal

section
variable {s t : State}

theorem clockEdge_scene (hr : s.pins.rst = false) (h : clockEdge s = .next t) (hne : t.fsm.scene ≠ s.fsm.scene) :
    SceneAdvanced s t ∧ s.fsm.phase = .send ∧ s.pins.cmdAck = true ∧ s.pins.cmdErr = false := by
  obtain ⟨lvl, p, -, hp, rfl⟩ := clockEdge_run_cases hr h
  have hbase := shiftSync_fsm_of_ptx hp
  rcases fsmRuns_scene (fsmEdge_runs lvl s (shiftSync s p)) with hscene | ⟨hphase, hack, herr, heq⟩
  · exact absurd (hscene.trans (by rw [hbase, edgeBase_scene])) hne
  · rw [heq]
    refine ⟨⟨?_, rfl, by simp⟩, hphase, hack, herr⟩
    simp only [afterEdge_fsm, enterSleep_fsm, advanceScene_fsm, emitCmd_fsm, hbase, edgeBase_scene]

theorem pollStep_scene {lvl : Bool} {txr : TxResult} {cmdr : CmdResult} (h : pollStep lvl txr cmdr s = .next t)
    (hne : t.fsm.scene ≠ s.fsm.scene) :
    SceneAdvanced s t ∧ s.fsm.phase ≠ .fatal ∧ s.fsm.dstate = .idle ∧ lvl = false ∧ txr = .ok ∧ cmdr = .ok := by
  rw [pollStep] at h
  rcases pollSelected_cases s lvl with ⟨hlive, hl, hd, hi⟩ | ⟨-, -, -, hi⟩ | ⟨-, -, hi⟩ | ⟨-, hi⟩ <;> rw [hi] at h
  · rcases pollPress_cases h with ⟨-, rfl⟩ | ⟨-, ⟨-, rfl⟩ | ⟨-, -, rfl⟩ | ⟨hx, hr, rfl⟩⟩
    · exact absurd rfl hne
    · exact absurd rfl hne
    · exact absurd rfl hne
    · exact ⟨⟨rfl, rfl, hlive⟩, hlive, hd, hl, hx, hr⟩
  · exact absurd (exec_keeps_scene_of_cycle (.inr (.inl rfl)) (by simp) h) hne
  · exact absurd (exec_keeps_scene_of_cycle (.inr (.inr ⟨_, rfl⟩)) (by simp) h) hne
  · cases h
    exact absurd rfl hne

end

/-- Settles O47: of what a step can run, only an edge in SEND and a poll cycle write the scene, each where a press ends
without an error. -/
theorem onlyAPressChangesTheScene : Obligations.OnlyAPressChangesTheScene := by
  intro s t hr h hne
  obtain ⟨s', htake, hruns⟩ := step_runs h
  obtain ⟨-, hfsm, -, -, -, hpins⟩ := htake.registers
  rw [← hfsm] at hne ⊢
  cases hruns with
  | edge hreset hrun =>
    obtain ⟨⟨hscene, hd, hlive⟩, hphase, hack, herr⟩ := clockEdge_scene (hreset.trans hr) hrun hne
    exact ⟨hscene, hd, hlive, .inl ⟨hphase, hpins ▸ hack, hpins ▸ herr⟩⟩
  | rst hreset => exact absurd hreset (by simp [hr])
  | ptxEdge _ start fault u hrun ht =>
    obtain ⟨-, -, hu⟩ := ptxOnlyEdge_leaves_rest hrun
    rw [ht] at hne
    exact absurd (by rw [hu]) hne
  | poll _ lvl txr cmdr hline hpoint _ u hrun ht =>
    rw [ht] at hne ⊢
    obtain ⟨⟨hscene, hd, hlive⟩, hlive', hidle, rfl, rfl, rfl⟩ := pollStep_scene hrun hne
    have hsample : s'.fsm.phase = .sample := (hfsm ▸ atPollPoint_eq_true.mp hpoint).resolve_right hlive'
    exact ⟨hscene, hd, hlive, .inr ⟨hsample, hidle, hline⟩⟩
  | operand _ ht =>
    rw [ht] at hne
    exact absurd rfl hne
  | skip _ ht =>
    rw [ht] at hne
    exact absurd rfl hne

/-! ### The inputs an edge hears (60_exceptions.md R345, 43_input_fsm.md R300) -/

section
variable (q : Pins) (s : State)

theorem runHi_withPins : runHi { s with pins := q } = { runHi s with pins := q } := by
  by_cases hend : s.ptx.cnt + 1 = thInFlight s
  · rw [runHi_of_end hend, runHi_of_end (s := { s with pins := q }) hend]
    rfl
  · rw [runHi_of_count hend, runHi_of_count (s := { s with pins := q }) hend]
    rfl

theorem runLo_withPins : runLo { s with pins := q } = { runLo s with pins := q } := by
  rcases lo_cases s with hne | ⟨hend, ⟨next, hn⟩ | ⟨hlast, hr⟩ | ⟨hlast, hr⟩⟩
  · rw [runLo_of_count hne, runLo_of_count (s := { s with pins := q }) hne]
    rfl
  · rw [runLo_of_nextSlot hend hn, runLo_of_nextSlot (s := { s with pins := q }) hend hn]
    rfl
  · rw [runLo_of_gap hend hlast hr, runLo_of_gap (s := { s with pins := q }) hend hlast hr]
    rfl
  · rw [runLo_of_end hend hlast hr, runLo_of_end (s := { s with pins := q }) hend hlast hr]
    rfl

theorem runGap_withPins : runGap { s with pins := q } = { runGap s with pins := q } := by
  by_cases hend : s.ptx.cnt + 1 = s.cfg.resetTicks
  · rw [runGap_of_end hend, runGap_of_end (s := { s with pins := q }) hend]
    rfl
  · rw [runGap_of_count hend, runGap_of_count (s := { s with pins := q }) hend]
    rfl

/-- PTX's operations do not read the pins: the fault level is part of PTXCTL. -/
theorem txOp_withPins {busy start fault : Bool} {p : State} (h : exec (ptxctlOp busy start fault) s = .next p) :
    exec (ptxctlOp busy start fault) { s with pins := q } = .next { p with pins := q } := by
  have hrun : exec (.txRun start) { s with pins := q } = mapNext ({ · with pins := q }) (exec (.txRun start) s) := by
    cases hp : s.ptx.phase with
    | hi => rw [exec_txRun_of_hi hp, exec_txRun_of_hi (s := { s with pins := q }) hp, runHi_withPins, mapNext_next]
    | lo => rw [exec_txRun_of_lo hp, exec_txRun_of_lo (s := { s with pins := q }) hp, runLo_withPins, mapNext_next]
    | gap => rw [exec_txRun_of_gap hp, exec_txRun_of_gap (s := { s with pins := q }) hp, runGap_withPins, mapNext_next]
  cases busy with
  | false =>
    cases start <;>
      cases h <;> rfl
  | true =>
    cases fault with
    | false =>
      have h' : exec (.txRun start) s = .next p := h
      exact hrun.trans (by rw [h', mapNext_next])
    | true =>
      cases h
      rfl

/-- The FSM's rule reads the sender's answer in SEND only, and its error flag with an acknowledge only. -/
theorem fsmEdge_withPins {lvl : Bool} (b : State)
    (hans : s.fsm.phase = .send → q.cmdAck = s.pins.cmdAck ∧ (s.pins.cmdAck = true → q.cmdErr = s.pins.cmdErr)) :
    fsmEdge lvl { s with pins := q } { b with pins := q } = { fsmEdge lvl s b with pins := q } := by
  have h := fsmEdge_runs lvl s b
  generalize fsmEdge lvl s b = r at h
  cases h with
  | invalid hphase hl hd hv => exact fsmEdge_of_invalid (s := { s with pins := q }) _ hphase hl hd hv
  | press hphase hl hd hv => exact fsmEdge_of_press (s := { s with pins := q }) _ hphase hl hd hv
  | quiet hphase hq => exact fsmEdge_of_quiet (s := { s with pins := q }) _ hphase hq
  | off hphase ho => exact fsmEdge_of_off (s := { s with pins := q }) _ hphase ho
  | frameWait hphase hd => exact fsmEdge_of_frameWait (s := { s with pins := q }) _ hphase hd
  | frameFault hphase hd he => exact fsmEdge_of_frameFault (s := { s with pins := q }) _ hphase hd he
  | shownPress hphase hd he => exact fsmEdge_of_shownPress (s := { s with pins := q }) _ hphase hd he
  | shownRelease hphase hd he => exact fsmEdge_of_shownRelease (s := { s with pins := q }) _ hphase hd he
  | sendWait hphase ha =>
    exact fsmEdge_of_sendWait (s := { s with pins := q }) _ hphase ((hans hphase).1.trans ha)
  | sendErr hphase ha he =>
    exact fsmEdge_of_sendErr (s := { s with pins := q }) _ hphase ((hans hphase).1.trans ha)
      (((hans hphase).2 ha).trans he)
  | sent hphase ha he =>
    exact fsmEdge_of_sent (s := { s with pins := q }) _ hphase ((hans hphase).1.trans ha)
      (((hans hphase).2 ha).trans he)
  | wake hphase hend => exact fsmEdge_of_wake (s := { s with pins := q }) _ hphase hend
  | sleep hphase hcount => exact fsmEdge_of_sleep (s := { s with pins := q }) _ hphase hcount
  | dead hphase => exact fsmEdge_of_fatal (s := { s with pins := q }) hphase _ _

/-- An edge hears `rst_i` and `btn_i`, the fault level as far as PTX does, and the answer as far as the FSM's rule
does. -/
theorem clockEdge_withPins (hrst : q.rst = s.pins.rst) (hbtn : q.btn = s.pins.btn)
    (htx : exec (ptxSelected s q.txFault) s = exec (ptxSelected s s.pins.txFault) s)
    (hans : s.fsm.phase = .send → q.cmdAck = s.pins.cmdAck ∧ (s.pins.cmdAck = true → q.cmdErr = s.pins.cmdErr)) :
    clockEdge { s with pins := q } = clockEdge s := by
  cases hr : s.pins.rst with
  | true =>
    rw [clockEdge_of_rst hr (exec_rst s), clockEdge_of_rst (s := { s with pins := q }) (hrst.trans hr) (exec_rst _)]
    rfl
  | false =>
    cases hl : lvl? s with
    | none =>
      have hfault : ∀ u : State, u.pins.rst = false → lvl? u = none → clockEdge u = .fault .noSyncStage := by
        intro u hu hn
        rw [clockEdge, if_neg (Bool.eq_false_iff.mp hu), runEdge, hn]
        rfl
      rw [hfault s hr hl, hfault { s with pins := q } (hrst.trans hr) hl]
    | some lvl =>
      obtain ⟨p, hp⟩ : ∃ p, exec (ptxSelected s s.pins.txFault) s = .next p := txOp_completes _ _ _ _
      have hshift : shiftSync { s with pins := q } { p with pins := q } = { shiftSync s p with pins := q } := by
        simp only [shiftSync, hbtn]
      rw [clockEdge_of_run hr hl hp,
        clockEdge_of_run (s := { s with pins := q }) (hrst.trans hr) hl (txOp_withPins q s (htx.trans hp)), hshift,
        fsmEdge_withPins q s _ hans]
      rfl

end

/-- An idle PTX does not look at the fault level (R106). -/
theorem exec_ptxSelected_of_idle {s : State} (hb : s.ptx.busy = false) (f g : Bool) :
    exec (ptxSelected s f) s = exec (ptxSelected s g) s := by
  rw [ptxSelected, ptxSelected, hb]
  cases s.fsm.startR <;> rfl

/-- Settles O49: outside what an edge hears the pins are free, and after the edge they are written anew. -/
theorem unheardInputsChangeNothing : Obligations.UnheardInputsChangeNothing := by
  intro s a e
  refine ⟨fun hphase => ?_, fun hack => ?_, fun hbusy => ?_⟩
  · exact clockEdge_withPins _ s rfl rfl rfl (fun hsend => absurd hsend hphase)
  · exact clockEdge_withPins _ s rfl rfl rfl (fun _ => ⟨rfl, fun hno => absurd hno (by simp [hack])⟩)
  · exact clockEdge_withPins _ s rfl rfl (exec_ptxSelected_of_idle hbusy _ _) (fun _ => ⟨rfl, fun _ => rfl⟩)

/-! ### The line `RST` (30_encoding.md R115) -/

section
variable {s t : State}

/-- Where a line `RST` has released `rst_i`, it is 0 after an edge. -/
theorem afterEdge_rst_of_mark (h : s.rstLow = true) :
    (afterEdge s).rstLow = true ∧ (afterEdge s).pins.rst = false :=
  ⟨h, by simp [nextPins, h]⟩

theorem clockEdge_keeps_mark (hm : s.rstLow = true) (h : clockEdge s = .next t) :
    t.rstLow = true ∧ t.pins.rst = false := by
  rcases clockEdge_cases h with ⟨-, u, hu, rfl⟩ | ⟨-, u, hu, rfl⟩
  · obtain ⟨-, -, -, -, hlow⟩ := exec_leaves_inputs hu
    exact afterEdge_rst_of_mark (hlow.trans hm)
  · obtain ⟨lvl, p, -, hp, rfl⟩ := runEdge_cases hu
    obtain ⟨-, -, -, -, hlow⟩ := exec_leaves_inputs hp
    exact afterEdge_rst_of_mark ((fsmEdge_rstLow _ _ _).trans (hlow.trans hm))

theorem ptxOnlyEdge_keeps_mark {start : Option ColorWord} {fault : Bool} (hm : s.rstLow = true)
    (h : ptxOnlyEdge start fault s = .next t) : t.rstLow = true ∧ t.pins.rst = false := by
  obtain ⟨p, hp, rfl⟩ := ptxOnlyEdge_cases h
  obtain ⟨-, -, -, -, hlow⟩ := exec_leaves_inputs hp
  exact afterEdge_rst_of_mark (hlow.trans hm)

theorem pinsNow_of_no_edge (h : ∀ p rest, s.stim ≠ .edge p :: rest) : pinsNow s = s.pins := by
  cases hs : s.stim with
  | nil => exact pinsNow_of_nil hs
  | cons l rest => exact pinsNow_of_line hs (fun p hl => h p rest (hl ▸ hs))

/-- No line but one that gives the pins brings `rst_i` back to 1. -/
theorem step_keeps_mark (hm : s.rstLow = true) (hr : s.pins.rst = false) (hno : ∀ p rest, s.stim ≠ .edge p :: rest)
    (h : step s = .next t) : t.rstLow = true ∧ t.pins.rst = false := by
  obtain ⟨s', htake, hruns⟩ := step_runs h
  obtain ⟨-, -, -, -, -, hpins⟩ := htake.registers
  have hm' : s'.rstLow = true := htake.keepsMark hno hm
  have hr' : s'.pins.rst = false := by rw [hpins, pinsNow_of_no_edge hno, hr]
  cases hruns with
  | edge _ hrun => exact clockEdge_keeps_mark hm' hrun
  | rst _ _ hrun =>
    obtain ⟨u, hu, rfl⟩ := mapNext_eq_next hrun
    obtain ⟨-, -, -, -, hlow⟩ := exec_leaves_inputs hu
    exact afterEdge_rst_of_mark (hlow.trans hm')
  | ptxEdge _ start fault u hrun ht =>
    rw [ht]
    exact (ptxOnlyEdge_keeps_mark hm' hrun :)
  | poll _ lvl txr cmdr _ _ _ u hrun ht =>
    obtain ⟨-, -, -, -, hlow⟩ := exec_leaves_inputs hrun
    rw [ht]
    exact afterEdge_rst_of_mark (hlow.trans hm')
  | operand _ ht =>
    rw [ht]
    exact ⟨hm', hr'⟩
  | skip _ ht =>
    rw [ht]
    exact ⟨hm', hr'⟩

end

/-- Settles O56: the line is RST and leaves the mark that `rst_i` is 0; every edge reads the mark, and only a line that
gives the pins takes it back. -/
theorem resetLineHoldsForOneEdge : Obligations.ResetLineHoldsForOneEdge := by
  refine ⟨fun s rest hc hs => ?_, fun s t hm hr hno h => step_keeps_mark hm hr hno h⟩
  have hline : step s = mapNext afterEdge (exec .rst { s with stim := rest, rstLow := true }) := step_of_line hc hs
  obtain ⟨hlow, hpin⟩ := afterEdge_rst_of_mark (s := { s with
    fsm := fsmReset s.cfg, ptx := ptxReset, cuts := if s.ptx.busy then s.cuts ++ [s.ptx.word] else s.cuts,
    stim := rest, rstLow := true }) rfl
  exact ⟨_, _, exec_rst s, hline, rfl, rfl, rfl, rfl, rfl, hlow, hpin⟩

/-! ### The synchronizer (10_state.md R40) -/

section
variable {s t : State}

theorem clockEdge_sync (hr : s.pins.rst = false) (h : clockEdge s = .next t) :
    t.fsm.sync = (s.pins.btn :: s.fsm.sync).take s.cfg.syncStages := by
  obtain ⟨lvl, p, -, -, rfl⟩ := clockEdge_run_cases hr h
  rw [afterEdge_fsm, fsmEdge_sync, shiftSync_fsm]

theorem ptxOnlyEdge_sync {start : Option ColorWord} {fault : Bool} (h : ptxOnlyEdge start fault s = .next t) :
    t.fsm.sync = (s.pins.btn :: s.fsm.sync).take s.cfg.syncStages := by
  obtain ⟨-, -, hfsm⟩ := ptxOnlyEdge_leaves_rest h
  rw [hfsm]

end

/-- Settles O57: both kinds of edge shift, and RST fills the stages with 1. -/
theorem everyEdgeShiftsTheSynchronizer : Obligations.EveryEdgeShiftsTheSynchronizer := by
  intro s t hc _
  refine ⟨fun hedge => ?_, fun hrst k hk => ?_⟩
  · have hsync : t.fsm.sync = (s.pins.btn :: s.fsm.sync).take s.cfg.syncStages := by
      rcases hedge with ⟨hr, h⟩ | ⟨start, fault, h⟩
      · exact clockEdge_sync hr h
      · exact ptxOnlyEdge_sync h
    rw [hsync]
    refine ⟨?_, fun k hpos hk => ?_⟩
    · rw [List.getElem?_take_of_lt (syncStages_pos hc), List.getElem?_cons_zero]
    · rw [List.getElem?_take_of_lt hk, List.getElem?_cons, if_neg (by omega)]
  · rw [exec_rst] at hrst
    cases hrst
    exact List.getElem?_replicate_of_lt hk

/-! ### The operation a step runs (30_encoding.md R106 to R108, R112) -/

theorem runOperand_of_decode {f : UnitFormat} {w : Nat} {i : Instr} (h : decode (unitFormat f) w = .op i) (s : State) :
    runOperand f w s = exec i s := by
  rw [runOperand, h]

theorem runLine_poll_of_point {s : State} (hpoint : atPollPoint s = true) (hidle : s.ptx.busy = false)
    (lvl : Bool) (txr : TxResult) (cmdr : CmdResult) :
    runLine (.poll lvl txr cmdr) s = mapNext afterEdge (pollStep lvl txr cmdr s) := by
  rw [runLine, if_pos hpoint, if_neg (Bool.eq_false_iff.mp hidle)]

theorem clockEdge_of_level {s : State} {lvl : Bool} (hr : s.pins.rst = false) (hl : lvl? s = some lvl) :
    clockEdge s = mapNext (fun q => afterEdge (fsmEdge lvl s (shiftSync s q)))
      (exec (ptxSelected s s.pins.txFault) s) := by
  obtain ⟨p, hp⟩ : ∃ p, exec (ptxSelected s s.pins.txFault) s = .next p := txOp_completes _ _ _ _
  rw [clockEdge_of_run hr hl hp, hp, mapNext_next]

/-- Settles O51: each kind of line is its operation's `exec`, and what a step adds is written around it. -/
theorem stepRunsTheDecodedOperation : Obligations.StepRunsTheDecodedOperation := by
  intro s rest hc
  refine ⟨?operand, ?poll, ?ptxEdge, ?edge, ?rst, ?none⟩
  case operand =>
    intro f w i hs hi
    exact (step_of_line hc hs).trans (runOperand_of_decode hi _)
  case poll =>
    intro lvl txr cmdr hs hpoint hidle
    exact (step_of_line hc hs).trans (runLine_poll_of_point (s := { s with stim := rest }) hpoint hidle lvl txr cmdr)
  case ptxEdge => exact fun start fault hs => step_of_line hc hs
  case edge =>
    intro p lvl hs hr hl
    exact (step_of_line hc hs).trans
      (clockEdge_of_level (s := { s with stim := rest, pins := p, rstLow := false }) hr hl)
  case rst => exact fun hs => step_of_line hc hs
  case none =>
    intro hs
    rw [step_of_legal hc, runNext, hs]

/-! ### The units' wires, the enumerations, the default commands -/

/-- Settles O59: ENC writes the frame only. -/
theorem encLeavesThePulsePair : Obligations.EncLeavesThePulsePair := fun w s => ⟨_, exec_enc w s, rfl⟩

/-- Settles O60: PACK writes the word only, ENC the frame only. -/
theorem packAndEncKeepTheOtherWires : Obligations.PackAndEncKeepTheOtherWires :=
  ⟨fun r g b s => ⟨_, exec_pack r g b s, rfl⟩, fun w s => ⟨_, exec_enc w s, rfl⟩⟩

/-- Settles O58. -/
theorem enumerationCodes : Obligations.EnumerationCodes := by
  unfold Obligations.EnumerationCodes
  decide

/-- Settles O50: the four values are computed. -/
theorem defaultCommands : Obligations.DefaultCommands := by
  refine ⟨?_, ?_, ?_, ?_⟩ <;> decide

end Sys2Proof.Machine
end

section
/-! PROOFS. Runs of clock edges: the delay of the synchronizer, the length of a quiet cycle, and the refinement of the
poll level (10_state.md R40; 43_input_fsm.md R297, R306). -/

namespace Sys2Proof.Machine

/-! ### The run of a waveform -/

section
variable {M : Host.Core} {k : Nat} {s t : M.State}

theorem run_succ_of_step {u : M.State} (h : M.step s = .next u) : M.run (k + 1) s = M.run k u := by
  rw [Host.Core.run, h]

/-- A run that answers a next state is its first step and then the rest. -/
theorem run_succ_cases (h : M.run (k + 1) s = .next t) : ∃ u, M.step s = .next u ∧ M.run k u = .next t := by
  rw [Host.Core.run] at h
  split at h
  next u hu => exact ⟨u, hu, h⟩
  all_goals cases h

end

/-- The state `s` at the edge `p` of a waveform, with the edges `ps` still to come. -/
def atEdge (p : Pins) (ps : List Pins) (s : State) : State :=
  { s with stim := ps.map Line.edge, pins := p, rstLow := false }

@[simp] theorem atEdge_cfg (p : Pins) (ps : List Pins) (s : State) : (atEdge p ps s).cfg = s.cfg := rfl
@[simp] theorem atEdge_fsm (p : Pins) (ps : List Pins) (s : State) : (atEdge p ps s).fsm = s.fsm := rfl
@[simp] theorem atEdge_trace (p : Pins) (ps : List Pins) (s : State) : (atEdge p ps s).trace = s.trace := rfl

section
variable {s t u : State} {p : Pins} {ps : List Pins}

theorem step_withEdges (hc : cfgLegal s.cfg = true) : step (withEdges (p :: ps) s) = clockEdge (atEdge p ps s) :=
  step_of_line (s := withEdges (p :: ps) s) hc rfl

/-- After an edge of a waveform the rest of it is queued. -/
theorem withEdges_of_clockEdge (h : clockEdge (atEdge p ps s) = .next u) : withEdges ps u = u := by
  obtain ⟨-, hstim⟩ := clockEdge_leaves_inputs h
  have hstim' : ps.map Line.edge = u.stim := hstim.symm
  rw [withEdges, hstim']

theorem run_withEdges_cons (hc : cfgLegal s.cfg = true) (h : clockEdge (atEdge p ps s) = .next u) (k : Nat) :
    Host.Core.run core (k + 1) (withEdges (p :: ps) s) = Host.Core.run core k (withEdges ps u) := by
  rw [withEdges_of_clockEdge h]
  exact run_succ_of_step (M := core) ((step_withEdges hc).trans h)

/-- The stage that the FSM samples is there under a legal configuration. -/
theorem lvl?_of_length (hc : cfgLegal s.cfg = true) (hlen : s.fsm.sync.length = s.cfg.syncStages) :
    ∃ lvl, lvl? s = some lvl := by
  have hpos := syncStages_pos hc
  exact ⟨_, List.getElem?_eq_getElem (by omega)⟩

/-- An edge with `rst_i` = 0 completes, keeps the number of stages, and makes of the FSM what the rule makes of
`edgeBase`. -/
theorem clockEdge_completes {lvl : Bool} (hlen : s.fsm.sync.length = s.cfg.syncStages) (hr : p.rst = false)
    (hl : lvl? s = some lvl) :
    ∃ u b, clockEdge (atEdge p ps s) = .next u ∧ u.cfg = s.cfg ∧
      u.fsm.sync = (p.btn :: s.fsm.sync).take s.cfg.syncStages ∧ u.fsm.sync.length = u.cfg.syncStages ∧ b.fsm = edgeBase (atEdge p ps s) ∧
      u.fsm = (fsmEdge lvl (atEdge p ps s) b).fsm := by
  obtain ⟨q, b, -, hbase, -, -, u, hu, -, hfsm, -⟩ := clockEdge_edgeBase (s := atEdge p ps s) hr hl
  have hcfg : u.cfg = s.cfg := (clockEdge_keeps_cfg hu :)
  have hsync : u.fsm.sync = (p.btn :: s.fsm.sync).take s.cfg.syncStages := clockEdge_sync (s := atEdge p ps s) hr hu
  exact ⟨u, b, hu, hcfg, hsync, by rw [hsync, hcfg]; simp [hlen], hbase, hfsm⟩

end

/-! ### The delay of the synchronizer (10_state.md R40) -/

/-- What falls off the end of the synchronizer does not come back. -/
theorem take_append_take_self {α : Type} (n : Nat) (xs ys : List α) : (xs ++ ys.take n).take n = (xs ++ ys).take n := by
  rw [List.take_append, List.take_append, List.take_take, Nat.min_eq_left (Nat.sub_le n xs.length)]

/-- After the edges `ps` the synchronizer holds their levels, the last first, and then what it held before. -/
theorem run_withEdges_sync (ps : List Pins) (s : State) (hc : cfgLegal s.cfg = true)
    (hlen : s.fsm.sync.length = s.cfg.syncStages) (hr : ∀ p ∈ ps, p.rst = false) :
    ∃ t, Host.Core.run core ps.length (withEdges ps s) = .next t ∧ t.cfg = s.cfg ∧
      t.fsm.sync = ((ps.map Pins.btn).reverse ++ s.fsm.sync).take s.cfg.syncStages := by
  induction ps generalizing s with
  | nil => exact ⟨_, rfl, rfl, by simp [withEdges, ← hlen]⟩
  | cons p ps ih =>
    obtain ⟨hp, hps⟩ := List.forall_mem_cons.mp hr
    obtain ⟨lvl, hl⟩ := lvl?_of_length hc hlen
    obtain ⟨u, -, hu, hcfg, hsync, hlen', -, -⟩ := clockEdge_completes (ps := ps) hlen hp hl
    obtain ⟨t, ht, hcfg', hsync'⟩ := ih u (hcfg ▸ hc) hlen' hps
    refine ⟨t, (run_withEdges_cons hc hu _).trans ht, hcfg'.trans hcfg, ?_⟩
    rw [hsync', hsync, hcfg, take_append_take_self, List.map_cons, List.reverse_cons, List.append_assoc]
    rfl

/-- Settles O38: after SYNC_STAGES edges the last stage holds the level of the first of them. -/
theorem synchronizerDelaysTheButton : Obligations.SynchronizerDelaysTheButton := by
  intro s ps hc hlen hps hr
  obtain ⟨t, ht, hcfg, hsync⟩ := run_withEdges_sync ps s hc hlen hr
  refine ⟨t, ht, ?_⟩
  have hpos := syncStages_pos hc
  unfold lvl?
  rw [hsync, hcfg, ← hps, List.getElem?_take_of_lt (by omega), List.getElem?_append_left (by simp; omega),
    List.getElem?_reverse (by simp; omega)]
  simp [List.head?_eq_getElem?]

/-! ### The length of a quiet cycle (43_input_fsm.md R306) -/

/-- The sleep from a count on: POLL_TICKS less that count edges, all but the last into SLEEP again. -/
theorem run_withEdges_sleep (ps : List Pins) (s : State) (hc : cfgLegal s.cfg = true)
    (hlen : s.fsm.sync.length = s.cfg.syncStages) (hr : ∀ p ∈ ps, p.rst = false) (hphase : s.fsm.phase = .sleep)
    (hne : ps ≠ []) (hps : s.fsm.sleepCnt + ps.length = pollTicks s.cfg) :
    (∃ t, Host.Core.run core ps.length (withEdges ps s) = .next t ∧ t.fsm.phase = .sample) ∧
    ∀ k, k < ps.length → ∃ t, Host.Core.run core k (withEdges ps s) = .next t ∧ t.fsm.phase = .sleep := by
  induction ps generalizing s with
  | nil => exact absurd rfl hne
  | cons p ps ih =>
    obtain ⟨hp, hr'⟩ := List.forall_mem_cons.mp hr
    obtain ⟨lvl, hl⟩ := lvl?_of_length hc hlen
    obtain ⟨u, b, hu, hcfg, -, hlen', hbase, hfsm⟩ := clockEdge_completes (ps := ps) hlen hp hl
    have hrun := run_withEdges_cons hc hu
    have hnow : ∃ t, Host.Core.run core 0 (withEdges (p :: ps) s) = .next t ∧ t.fsm.phase = .sleep := ⟨_, rfl, hphase⟩
    rw [List.length_cons] at hps ⊢
    rcases eq_or_ne ps [] with rfl | hmore
    · rw [fsmEdge_of_wake b (s := atEdge p [] s) hphase hps] at hfsm
      refine ⟨⟨_, hrun 0, congrArg Fsm.phase hfsm⟩, fun k hk => ?_⟩
      obtain rfl : k = 0 := by simpa using hk
      exact hnow
    · have hcount : s.fsm.sleepCnt + 1 ≠ pollTicks s.cfg := by
        have := List.length_pos_of_ne_nil hmore
        omega
      rw [fsmEdge_of_sleep b (s := atEdge p ps s) hphase hcount, hbase] at hfsm
      have hphase' : u.fsm.phase = .sleep := by rw [hfsm]; exact hphase
      have hcnt : u.fsm.sleepCnt = s.fsm.sleepCnt + 1 := by rw [hfsm]; rfl
      obtain ⟨hlast, hbefore⟩ := ih u (hcfg ▸ hc) hlen' hr' hphase' hmore (by rw [hcnt, hcfg, ← hps]; omega)
      refine ⟨by rw [hrun]; exact hlast, fun k hk => ?_⟩
      cases k with
      | zero => exact hnow
      | succ k =>
        rw [hrun]
        exact hbefore k (by omega)

/-- Settles O40: the first edge goes to sleep with a count of 0, and the sleep takes POLL_TICKS edges. -/
theorem quietCycleLength : Obligations.QuietCycleLength := by
  intro s lvl ps hc hlen hphase hl hquiet hps hr
  cases ps with
  | nil => cases hps
  | cons p ps =>
    obtain ⟨hp, hr'⟩ := List.forall_mem_cons.mp hr
    obtain ⟨u, b, hu, hcfg, -, hlen', -, hfsm⟩ := clockEdge_completes (ps := ps) hlen hp hl
    have hrun := run_withEdges_cons hc hu
    rw [fsmEdge_of_quiet b (s := atEdge p ps s) hphase hquiet] at hfsm
    have hps' : ps.length = pollTicks s.cfg := by simpa using hps
    have hmore : ps ≠ [] := List.ne_nil_of_length_pos (hps' ▸ pollTicks_pos hc)
    obtain ⟨hlast, hbefore⟩ := run_withEdges_sleep ps u (hcfg ▸ hc) hlen' hr' (by rw [hfsm]; rfl) hmore
      (by rw [hfsm, hcfg, ← hps']; exact Nat.zero_add _)
    refine ⟨by rw [List.length_cons, hrun]; exact hlast, fun k hpos hk => ?_⟩
    obtain ⟨j, rfl⟩ := Nat.exists_eq_add_of_le' hpos
    rw [hrun]
    exact hbefore j (by simpa using hk)

/-! ### The refinement of the poll level (43_input_fsm.md R297) -/

/-- The state `t` shows what one poll-level step from `s` with the level `lvl` shows, for some outcomes. -/
def EndsAs (lvl : Bool) (s t : State) : Prop :=
  ∃ txr cmdr v, pollStep lvl txr cmdr s = .next v ∧ pstate t = pstate v ∧ t.trace = v.trace

theorem endsAs_of_exec {lvl : Bool} {s t : State} {i : Instr} (hi : pollSelected s lvl = i) (txr : TxResult)
    (cmdr : CmdResult)
    (h : ∀ v, exec i { s with ans := ⟨txr, cmdr⟩ } = .next v → pstate v = pstate t ∧ v.trace = t.trace) :
    EndsAs lvl s t := by
  obtain ⟨v, hv⟩ := exec_completes i { s with ans := ⟨txr, cmdr⟩ }
  obtain ⟨hstate, htrace⟩ := h v hv
  exact ⟨txr, cmdr, v, by rw [pollStep, hi]; exact hv, hstate.symm, htrace.symm⟩

/-- The first half of a press: nothing of PState has changed. -/
structure Pressing (lvl : Bool) (s u : State) : Prop where
  low : lvl = false
  idle : s.fsm.dstate = .idle
  valid : (entryColor s).invalid = false
  cfg : u.cfg = s.cfg
  state : pstate u = pstate s

/-- A state `u` within the clock-level cycle that began at the sample edge of `s`: how far the cycle has come, and what
it has shown. -/
inductive InCycle (lvl : Bool) (s u : State) : Prop where
  | showP (hphase : u.fsm.phase = .showP) (hpress : Pressing lvl s u) (htrace : u.trace = s.trace ++ reportedFrame u)
  | send (hphase : u.fsm.phase = .send) (hpress : Pressing lvl s u)
      (htrace : u.trace = s.trace ++ [.frame (feedbackWord s) .ok])
  | showR (hphase : u.fsm.phase = .showR) (hoff : OffSample s lvl) (hstate : pstate u = pstate s)
      (htrace : u.trace = s.trace ++ reportedFrame u)
  | ended (hphase : u.fsm.phase = .sample ∨ u.fsm.phase = .sleep ∨ u.fsm.phase = .fatal) (hend : EndsAs lvl s u)

section
variable {lvl : Bool} {s t u : State}

/-- At a poll point the cycle is over. -/
theorem InCycle.endsAs (h : InCycle lvl s u) (hpoint : atPollPoint u = true) : EndsAs lvl s u := by
  have hphase := atPollPoint_eq_true.mp hpoint
  cases h with
  | ended _ hend => exact hend
  | showP hp | send hp | showR hp => exact absurd hphase (by simp [hp])

theorem pstate_eq_of_live (hs : s.fsm.phase ≠ .fatal) (ht : t.fsm.phase ≠ .fatal) (hscene : t.fsm.scene = s.fsm.scene)
    (hd : t.fsm.dstate = s.fsm.dstate) (he : t.fsm.errCode = s.fsm.errCode) : pstate t = pstate s := by
  rw [pstate_of_not_fatal hs, pstate_of_not_fatal ht, hscene, hd, he]

section
variable (hlive : s.fsm.phase ≠ .fatal) (hl : lvl = false) (hd : s.fsm.dstate = .idle)
include hlive hl hd

theorem pollSelected_press : pollSelected s lvl = .pollPress := by
  rw [hl]
  exact pollSelected_eq_pollPress hlive hd

theorem endsAs_invalid (hv : (entryColor s).invalid = true)
    (hstate : pstate t = ⟨s.fsm.scene, s.fsm.dstate, true, .invalidColorInput⟩)
    (htrace : t.trace = s.trace ++ [.fatal .invalidColorInput]) : EndsAs lvl s t :=
  endsAs_of_exec (pollSelected_press hlive hl hd) .ok .ok fun v hrun => by
    obtain ⟨hstate', htrace'⟩ := pollPress_of_invalid hrun hv
    exact ⟨hstate'.trans hstate.symm, htrace'.trans htrace.symm⟩

variable (hv : (entryColor s).invalid = false)
include hv

theorem endsAs_pressFault (hstate : pstate t = ⟨s.fsm.scene, s.fsm.dstate, true, .peripheralError⟩)
    (htrace : t.trace = s.trace ++ [.frame (feedbackWord s) .fault, .fatal .peripheralError]) : EndsAs lvl s t :=
  endsAs_of_exec (pollSelected_press hlive hl hd) .fault .ok fun v hrun => by
    obtain ⟨hstate', htrace'⟩ := pollPress_of_txFault hrun hv rfl
    exact ⟨hstate'.trans hstate.symm, htrace'.trans htrace.symm⟩

theorem endsAs_commandFailed (hstate : pstate t = ⟨s.fsm.scene, s.fsm.dstate, true, .transportError⟩)
    (htrace : t.trace = s.trace ++ [.frame (feedbackWord s) .ok,
      .cmd s.fsm.scene (sceneIdField s) (dimmingField s) .err, .fatal .transportError]) : EndsAs lvl s t :=
  endsAs_of_exec (pollSelected_press hlive hl hd) .ok .err fun v hrun => by
    obtain ⟨hstate', htrace'⟩ := pollPress_of_cmdErr hrun hv rfl
    exact ⟨hstate'.trans hstate.symm, htrace'.trans htrace.symm⟩

theorem endsAs_sent (hstate : pstate t = ⟨s.fsm.scene ^^^ 1#1, .handled, false, s.fsm.errCode⟩)
    (htrace : t.trace = s.trace ++ [.frame (feedbackWord s) .ok,
      .cmd s.fsm.scene (sceneIdField s) (dimmingField s) .ok]) : EndsAs lvl s t :=
  endsAs_of_exec (pollSelected_press hlive hl hd) .ok .ok fun v hrun => by
    obtain ⟨hstate', htrace'⟩ := pollPress_of_ok hrun hlive hv rfl
    exact ⟨hstate'.trans hstate.symm, htrace'.trans htrace.symm⟩

end

section
variable (hlive : s.fsm.phase ≠ .fatal)
include hlive

theorem endsAs_quiet (hq : QuietSample s lvl) (hstate : pstate t = pstate s) (htrace : t.trace = s.trace) :
    EndsAs lvl s t := by
  rcases hq with ⟨rfl, hd⟩ | ⟨rfl, hm, hd⟩
  · refine endsAs_of_exec (pollSelected_eq_pollHold hlive hd) .ok .ok fun v hrun => ?_
    cases hrun
    exact ⟨hstate.symm, htrace.symm⟩
  · refine endsAs_of_exec (pollSelected_eq_pollRelease hlive) .ok .ok fun v hrun => ?_
    obtain ⟨hstate', htrace'⟩ := pollRelease_of_quiet hrun (by simp [hm, hd])
    exact ⟨hstate'.trans hstate.symm, htrace'.trans htrace.symm⟩

variable (ho : OffSample s lvl)
include ho

theorem endsAs_released (hstate : pstate t = { pstate s with dstate := .idle })
    (htrace : t.trace = s.trace ++ [.frame offWord .ok]) : EndsAs lvl s t := by
  obtain ⟨rfl, hm⟩ := ho
  refine endsAs_of_exec (pollSelected_eq_pollRelease hlive) .ok .ok fun v hrun => ?_
  obtain ⟨hstate', htrace'⟩ := pollRelease_of_txOk hrun hm rfl
  exact ⟨hstate'.trans hstate.symm, htrace'.trans htrace.symm⟩

theorem endsAs_releaseFault (hstate : pstate t = ⟨s.fsm.scene, s.fsm.dstate, true, .peripheralError⟩)
    (htrace : t.trace = s.trace ++ [.frame offWord .fault, .fatal .peripheralError]) : EndsAs lvl s t := by
  obtain ⟨rfl, hm⟩ := ho
  refine endsAs_of_exec (pollSelected_eq_pollRelease hlive) .fault .ok fun v hrun => ?_
  obtain ⟨hstate', htrace'⟩ := pollRelease_of_txFault hrun hm rfl
  exact ⟨hstate'.trans hstate.symm, htrace'.trans htrace.symm⟩

end

/-! ### The edges of the cycle -/

/-- The shift and PTX are no part of PState. -/
theorem pstate_of_edgeBase {b : State} (h : b.fsm = edgeBase s) : pstate b = pstate s := by
  simp only [pstate, fatalFlag, h, edgeBase_scene, edgeBase_dstate, edgeBase_phase, edgeBase_errCode]

section
variable {b : State} (lvl' : Bool) (hlive : s.fsm.phase ≠ .fatal)
include hlive

/-- The sample edge begins the cycle, or is all of it. -/
theorem fsmEdge_begins_cycle {p : Pins} {ps : List Pins} (hphase : s.fsm.phase = .sample) (hfree : PtxFree s)
    (hb : PtxEdge (atEdge p ps s) b) : InCycle lvl s (fsmEdge lvl (atEdge p ps s) b) := by
  obtain ⟨⟨-, -, hdone⟩, htrace⟩ := hb.free hfree
  have hfsm := hb.fsm
  have hstate : ∀ r : State, r.fsm.phase ≠ .fatal → r.fsm.scene = b.fsm.scene → r.fsm.dstate = b.fsm.dstate →
      r.fsm.errCode = b.fsm.errCode → pstate r = pstate s := fun r hr hscene hd he =>
    pstate_eq_of_live hlive hr (by simp [hscene, hfsm]) (by simp [hd, hfsm]) (by simp [he, hfsm])
  rcases sample_cases s lvl with ⟨hl, hd⟩ | hq | ho
  · cases hv : (entryColor s).invalid with
    | true =>
      rw [fsmEdge_of_invalid (s := atEdge p ps s) b hphase hl hd hv]
      exact .ended (.inr (.inr rfl)) (endsAs_invalid hlive hl hd hv (by simp [hfsm]) (by simp [htrace]))
    | false =>
      rw [fsmEdge_of_press (s := atEdge p ps s) b hphase hl hd hv]
      exact .showP rfl ⟨hl, hd, hv, hb.cfg, hstate _ (by simp) rfl rfl rfl⟩ (by simp [reportedFrame, hdone, htrace])
  · rw [fsmEdge_of_quiet (s := atEdge p ps s) b hphase hq]
    exact .ended (.inr (.inl rfl)) (endsAs_quiet hlive hq (hstate _ (by simp) rfl rfl rfl) htrace)
  · rw [fsmEdge_of_off (s := atEdge p ps s) b hphase ho]
    exact .showR rfl ho (hstate _ (by simp) rfl rfl rfl) (by simp [reportedFrame, hdone, htrace])

section
variable (h : Handshake u) (hb : PtxEdge u b)
include h hb

theorem fsmEdge_showP_cycle (hphase : u.fsm.phase = .showP) (hpress : Pressing lvl s u)
    (htrace : u.trace = s.trace ++ reportedFrame u) : InCycle lvl s (fsmEdge lvl' u b) := by
  obtain ⟨hserve, -, hword⟩ := (handshake_showP_iff hphase).mp h
  obtain ⟨hl, hd, hv, hcfg, hstate⟩ := hpress
  have hb' : pstate b = pstate s := (pstate_of_edgeBase hb.fsm).trans hstate
  obtain ⟨hscene, hdstate, -, herrCode⟩ := PState.mk.inj hb'
  rw [feedbackWord_congr hcfg (PState.mk.inj hstate).1] at hword
  cases hdone : u.ptx.done with
  | false =>
    obtain ⟨-, htrace'⟩ := hb.serving hserve hdone
    rw [fsmEdge_of_frameWait b (.inl hphase) hdone]
    exact .showP (by simp [hb.fsm, hphase]) ⟨hl, hd, hv, hb.cfg.trans hcfg, hb'⟩
      (by simp [htrace', htrace, reportedFrame, hdone])
  | true =>
    obtain ⟨-, htrace'⟩ := hb.reported hserve hdone
    cases herr : u.ptx.err with
    | true =>
      rw [fsmEdge_of_frameFault b (.inl hphase) hdone herr]
      exact .ended (.inr (.inr rfl)) (endsAs_pressFault hlive hl hd hv (by simp [hscene, hdstate])
        (by simp [htrace', htrace, reportedFrame, hdone, herr, hword]))
    | false =>
      rw [fsmEdge_of_shownPress b hphase hdone herr]
      exact .send rfl ⟨hl, hd, hv, hb.cfg.trans hcfg, pstate_eq_of_live hlive (by simp) hscene hdstate herrCode⟩
        (by simp [htrace', htrace, reportedFrame, hdone, herr, hword])

theorem fsmEdge_send_cycle (hphase : u.fsm.phase = .send) (hpress : Pressing lvl s u)
    (htrace : u.trace = s.trace ++ [.frame (feedbackWord s) .ok]) : InCycle lvl s (fsmEdge lvl' u b) := by
  obtain ⟨hl, hd, hv, hcfg, hstate⟩ := hpress
  obtain ⟨-, htrace'⟩ := hb.free (h.free (by simp [hphase]) (by simp [hphase]))
  have hb' : pstate b = pstate s := (pstate_of_edgeBase hb.fsm).trans hstate
  obtain ⟨hscene, hdstate, -, herrCode⟩ := PState.mk.inj hb'
  have hbcfg : b.cfg = s.cfg := hb.cfg.trans hcfg
  have hcmd : ∀ r, (emitCmd r b).trace =
      b.trace ++ [.cmd s.fsm.scene (sceneIdField s) (dimmingField s) r] := fun r => by
    rw [emitCmd_trace, sceneIdField_congr hbcfg hscene, dimmingField_congr hbcfg hscene, hscene]
  cases hack : u.pins.cmdAck with
  | false =>
    rw [fsmEdge_of_sendWait b hphase hack]
    exact .send (by simp [hb.fsm, hphase]) ⟨hl, hd, hv, hbcfg, hb'⟩ (htrace'.trans htrace)
  | true =>
    cases herr : u.pins.cmdErr with
    | true =>
      rw [fsmEdge_of_sendErr b hphase hack herr]
      exact .ended (.inr (.inr rfl)) (endsAs_commandFailed hlive hl hd hv (by simp [hscene, hdstate])
        (by rw [raiseErr_trace, hcmd, htrace', htrace]; simp))
    | false =>
      rw [fsmEdge_of_sent b hphase hack herr]
      exact .ended (.inr (.inl rfl)) (endsAs_sent hlive hl hd hv
        (pstate_eq_iff_of_not_fatal.mpr ⟨congrArg (· ^^^ 1#1) hscene, rfl, by simp, herrCode⟩)
        (by rw [enterSleep_trace, advanceScene_trace, hcmd, htrace', htrace]; simp))

theorem fsmEdge_showR_cycle (hphase : u.fsm.phase = .showR) (ho : OffSample s lvl) (hstate : pstate u = pstate s)
    (htrace : u.trace = s.trace ++ reportedFrame u) : InCycle lvl s (fsmEdge lvl' u b) := by
  obtain ⟨hserve, -, hword⟩ := (handshake_showR_iff hphase).mp h
  have hb' : pstate b = pstate s := (pstate_of_edgeBase hb.fsm).trans hstate
  obtain ⟨hscene, hdstate, -, herrCode⟩ := PState.mk.inj hb'
  cases hdone : u.ptx.done with
  | false =>
    obtain ⟨-, htrace'⟩ := hb.serving hserve hdone
    rw [fsmEdge_of_frameWait b (.inr hphase) hdone]
    exact .showR (by simp [hb.fsm, hphase]) ho hb' (by simp [htrace', htrace, reportedFrame, hdone])
  | true =>
    obtain ⟨-, htrace'⟩ := hb.reported hserve hdone
    cases herr : u.ptx.err with
    | true =>
      rw [fsmEdge_of_frameFault b (.inr hphase) hdone herr]
      exact .ended (.inr (.inr rfl)) (endsAs_releaseFault hlive ho (by simp [hscene, hdstate])
        (by simp [htrace', htrace, reportedFrame, hdone, herr, hword]))
    | false =>
      rw [fsmEdge_of_shownRelease b hphase hdone herr]
      refine .ended (.inr (.inl rfl)) (endsAs_released hlive ho ?_
        (by simp [htrace', htrace, reportedFrame, hdone, herr, hword]))
      rw [pstate_of_not_fatal hlive]
      exact pstate_eq_iff_of_not_fatal.mpr ⟨hscene, rfl, by simp, herrCode⟩

omit hlive in
theorem fsmEdge_sleep_cycle (hphase : u.fsm.phase = .sleep) (hend : EndsAs lvl s u) :
    InCycle lvl s (fsmEdge lvl' u b) := by
  obtain ⟨-, htrace'⟩ := hb.free (h.free (by simp [hphase]) (by simp [hphase]))
  obtain ⟨txr, cmdr, v, hv, hstate, htrace⟩ := hend
  have hfsm := hb.fsm
  have hu : u.fsm.phase ≠ .fatal := by simp [hphase]
  by_cases hcount : u.fsm.sleepCnt + 1 = pollTicks u.cfg
  · rw [fsmEdge_of_wake b hphase hcount]
    have hstate' := pstate_eq_of_live (t := goto .sample b) hu (by simp) (by simp [hfsm]) (by simp [hfsm])
      (by simp [hfsm])
    exact .ended (.inl rfl) ⟨txr, cmdr, v, hv, hstate'.trans hstate, htrace'.trans htrace⟩
  · rw [fsmEdge_of_sleep b hphase hcount]
    have hstate' : pstate b = pstate u := pstate_of_edgeBase hfsm
    exact .ended (.inr (.inl (by simp [hfsm, hphase]))) ⟨txr, cmdr, v, hv, hstate'.trans hstate, htrace'.trans htrace⟩

/-- Every edge within the cycle leads on in it. -/
theorem fsmEdge_continues_cycle (hu : InCycle lvl s u) (hpoint : atPollPoint u = false) :
    InCycle lvl s (fsmEdge lvl' u b) := by
  cases hu with
  | showP hphase hpress htrace => exact fsmEdge_showP_cycle lvl' hlive h hb hphase hpress htrace
  | send hphase hpress htrace => exact fsmEdge_send_cycle lvl' hlive h hb hphase hpress htrace
  | showR hphase ho hstate htrace => exact fsmEdge_showR_cycle lvl' hlive h hb hphase ho hstate htrace
  | ended hphase hend =>
    have hsleep : u.fsm.phase = .sleep := by
      simp only [atPollPoint, decide_eq_false_iff_not, not_or] at hpoint
      simpa [hpoint] using hphase
    exact fsmEdge_sleep_cycle lvl' h hb hsleep hend

end

end

/-! ### The whole cycle -/

/-- How far a cycle has come does not depend on the pins, the queue and the model's own counters. -/
theorem InCycle.of_inputs (h : InCycle lvl s u) (p : Pins) (q : List Line) (low : Bool) (n : Nat) :
    InCycle lvl s { u with pins := p, stim := q, rstLow := low, tick := n } := by
  cases h with
  | showP hphase hpress htrace =>
    obtain ⟨hl, hd, hv, hcfg, hstate⟩ := hpress
    exact .showP hphase ⟨hl, hd, hv, hcfg, hstate⟩ htrace
  | send hphase hpress htrace =>
    obtain ⟨hl, hd, hv, hcfg, hstate⟩ := hpress
    exact .send hphase ⟨hl, hd, hv, hcfg, hstate⟩ htrace
  | showR hphase ho hstate htrace => exact .showR hphase ho hstate htrace
  | ended hphase hend => exact .ended hphase hend

section
variable {p : Pins} {ps : List Pins} {v : State}

/-- The first edge of a waveform in SAMPLE. -/
theorem clockEdge_begins_cycle (hphase : s.fsm.phase = .sample) (h : Handshake s) (hr : p.rst = false)
    (hedge : clockEdge (atEdge p ps s) = .next v) : ∃ lvl, lvl? s = some lvl ∧ InCycle lvl s v := by
  obtain ⟨lvl, q, hl, hq, rfl⟩ := clockEdge_run_cases (s := atEdge p ps s) hr hedge
  have hcyc : InCycle lvl s (fsmEdge lvl (atEdge p ps s) (shiftSync (atEdge p ps s) q)) :=
    fsmEdge_begins_cycle (by simp [hphase]) hphase (h.free (by simp [hphase]) (by simp [hphase]))
      (shiftSync_ptxEdge hq)
  exact ⟨lvl, hl, hcyc.of_inputs _ _ _ _⟩

/-- The next edge of a waveform within the cycle. -/
theorem clockEdge_continues_cycle (hlive : s.fsm.phase ≠ .fatal) (hu : InCycle lvl s u) (h : Handshake u)
    (hpoint : atPollPoint u = false) (hr : p.rst = false) (hedge : clockEdge (atEdge p ps u) = .next v) :
    InCycle lvl s v := by
  obtain ⟨lvl', q, -, hq, rfl⟩ := clockEdge_run_cases (s := atEdge p ps u) hr hedge
  have hcyc := fsmEdge_continues_cycle lvl' hlive (handshake_of_inputs h p (ps.map Line.edge) false)
    (shiftSync_ptxEdge hq) (hu.of_inputs p (ps.map Line.edge) false u.tick) hpoint
  exact hcyc.of_inputs _ _ _ _

/-- From a point within the cycle the waveform runs to the end of the cycle, if it ends at the first poll point. -/
theorem run_withEdges_endsAs (ps : List Pins) (u : State) (hlive : s.fsm.phase ≠ .fatal) (hu : InCycle lvl s u)
    (h : Handshake u) (hr : ∀ p ∈ ps, p.rst = false)
    (hbetween : ∀ k w, k < ps.length → Host.Core.run core k (withEdges ps u) = .next w → atPollPoint w = false)
    (hrun : Host.Core.run core ps.length (withEdges ps u) = .next t) (hpoint : atPollPoint t = true) :
    EndsAs lvl s t := by
  induction ps generalizing u with
  | nil =>
    cases hrun
    exact (hu.endsAs hpoint :)
  | cons p ps ih =>
    obtain ⟨hp, hps⟩ := List.forall_mem_cons.mp hr
    have hpoint' : atPollPoint u = false := hbetween 0 (withEdges (p :: ps) u) (by simp) rfl
    obtain ⟨v, hv, hrest⟩ := run_succ_cases (M := core) hrun
    obtain ⟨hc, -⟩ := step_cases hv
    have hedge : clockEdge (atEdge p ps u) = .next v := (step_withEdges hc).symm.trans hv
    rw [← withEdges_of_clockEdge hedge] at hrest
    refine ih v (clockEdge_continues_cycle hlive hu h hpoint' hp hedge)
      (clockEdge_keeps_handshake (handshake_of_inputs h _ _ _) hedge) hps (fun k w hk hw => ?_) hrest
    exact hbetween (k + 1) w (by simpa using hk) ((run_withEdges_cons hc hedge k).trans hw)

end

end

/-- Settles O41: the sample edge begins a cycle, every edge leads on in it, and at the poll point the cycle shows what
the poll-level step with the outcomes of its frame and its command shows. -/
theorem clockCycleRefinesPollStep : Obligations.ClockCycleRefinesPollStep := by
  intro s t ps h hphase hne hr hbetween hrun hpoint
  cases ps with
  | nil => exact absurd rfl hne
  | cons p ps =>
    obtain ⟨hp, hps⟩ := List.forall_mem_cons.mp hr
    obtain ⟨v, hv, hrest⟩ := run_succ_cases (M := core) hrun
    obtain ⟨hc, -⟩ := step_cases hv
    have hedge : clockEdge (atEdge p ps s) = .next v := (step_withEdges hc).symm.trans hv
    rw [← withEdges_of_clockEdge hedge] at hrest
    obtain ⟨lvl, hl, hcyc⟩ := clockEdge_begins_cycle hphase h hp hedge
    obtain ⟨txr, cmdr, w, hw, hstate, htrace⟩ := run_withEdges_endsAs ps v (by simp [hphase]) hcyc
      (clockEdge_keeps_handshake (handshake_of_inputs h _ _ _) hedge) hps
      (fun k w hk hw => hbetween (k + 1) w k.succ_pos (by simpa using hk) ((run_withEdges_cons hc hedge k).trans hw))
      hrest hpoint
    exact ⟨lvl, txr, cmdr, w, hl, hw, hstate, htrace⟩

end Sys2Proof.Machine
end

section
/-! PROOFS. A whole frame on the line: its levels, clock period by clock period, and its end (42_pulse_transmit.md
R229). -/

namespace Sys2Proof.Machine

/-! ### The levels of the line from a slot on -/

/-- The levels of one slot: high for `TH`, then low for `TL` (R220). -/
def pulseLevels (c : Cfg) (x : Sym) : List Bool :=
  List.replicate (highTicks c x) true ++ List.replicate (lowTicks c x) false

/-- The levels of the last `m` slots, which carry the bits `m - 1` to 0, and of the gap. -/
def lastLevels (c : Cfg) (w : ColorWord) : Nat → List Bool
  | 0 => List.replicate c.resetTicks false
  | m + 1 => pulseLevels c (symOfBit (w.getLsbD m)) ++ lastLevels c w m

/-- A frame is its first slots and then its last. -/
theorem slotLevels_append_lastLevels (c : Cfg) (w : ColorWord) {m : Nat} (hm : m ≤ 24) :
    slotLevels c w (24 - m) ++ lastLevels c w m = frameLevels c w := by
  induction m with
  | zero => rfl
  | succ m ih =>
    have hslot : 24 - m = 24 - (m + 1) + 1 := by omega
    have hbit : 23 - (24 - (m + 1)) = m := by omega
    rw [← ih (by omega), hslot, slotLevels, hbit, lastLevels, pulseLevels]
    simp only [List.append_assoc]

theorem frameLevels_eq_lastLevels (c : Cfg) (w : ColorWord) : frameLevels c w = lastLevels c w 24 :=
  (slotLevels_append_lastLevels c w le_rfl).symm

theorem slotLevels_length (c : Cfg) (w : ColorWord) (n : Nat) : (slotLevels c w n).length = slotTicks c w n := by
  induction n with
  | zero => rfl
  | succ n ih => simp [slotLevels, slotTicks, ih, Nat.add_assoc]

/-- A frame has one level for each of its clock periods. -/
theorem frameLevels_length (c : Cfg) (w : ColorWord) : (frameLevels c w).length = frameTicks c w := by
  simp [frameLevels, frameTicks, slotLevels_length]

/-- The levels still to come of a frame in flight, the present one first. -/
def levelsLeft (c : Cfg) (p : Ptx) : List Bool :=
  match p.phase with
  | .hi =>
    List.replicate (highTicks c (slotSym p.word p.slot) - p.cnt) true
      ++ (List.replicate (lowTicks c (slotSym p.word p.slot)) false ++ lastLevels c p.word (23 - p.slot.val))
  | .lo =>
    List.replicate (lowTicks c (slotSym p.word p.slot) - p.cnt) false ++ lastLevels c p.word (23 - p.slot.val)
  | .gap => List.replicate (c.resetTicks - p.cnt) false

section
variable {c : Cfg} {p : Ptx}

theorem levelsLeft_of_hi (hp : p.phase = .hi) :
    levelsLeft c p = List.replicate (highTicks c (slotSym p.word p.slot) - p.cnt) true
      ++ (List.replicate (lowTicks c (slotSym p.word p.slot)) false ++ lastLevels c p.word (23 - p.slot.val)) := by
  rw [levelsLeft, hp]

theorem levelsLeft_of_lo (hp : p.phase = .lo) :
    levelsLeft c p =
      List.replicate (lowTicks c (slotSym p.word p.slot) - p.cnt) false ++ lastLevels c p.word (23 - p.slot.val) := by
  rw [levelsLeft, hp]

theorem levelsLeft_of_gap (hp : p.phase = .gap) : levelsLeft c p = List.replicate (c.resetTicks - p.cnt) false := by
  rw [levelsLeft, hp]

end

/-- A phase that has not ended shows its level in the present clock period. -/
theorem replicate_sub_of_lt {T n : Nat} (h : n < T) (d : Bool) :
    List.replicate (T - n) d = d :: List.replicate (T - (n + 1)) d := by
  rw [← List.replicate_succ]
  congr 1
  omega

/-! ### One clock period -/

section
variable {s t : State}

/-- What one clock period of a frame does to the levels to come: the present one is over, and the frame has ended if it
was the last. -/
def FrameAdvances (s t : State) : Prop :=
  ∃ l, levelsLeft s.cfg s.ptx = s.ptx.dout :: l ∧
    ((l = [] ∧ t = finishFrame s) ∨
      (levelsLeft t.cfg t.ptx = l ∧ t.ptx.busy = s.ptx.busy ∧ t.ptx.word = s.ptx.word ∧ t.trace = s.trace))

section
variable (hok : PtxOk s) (hbusy : s.ptx.busy = true)
include hok hbusy

omit hbusy in
/-- The line is low outside the high part. -/
theorem dout_eq_false_of_low (hp : s.ptx.phase ≠ .hi) : s.ptx.dout = false := by
  obtain ⟨-, -, -, hline, -⟩ := hok
  rw [← Bool.not_eq_true, hline]
  exact fun h => hp h.2

theorem runHi_advances (hp : s.ptx.phase = .hi) : FrameAdvances s (runHi s) := by
  obtain ⟨-, hcnt, -, hline, -⟩ := hok
  have hlt : s.ptx.cnt < thInFlight s := by
    have hnow := hcnt hbusy
    rwa [hp] at hnow
  refine ⟨List.replicate (thInFlight s - (s.ptx.cnt + 1)) true ++
    (List.replicate (tlInFlight s) false ++ lastLevels s.cfg s.ptx.word (23 - s.ptx.slot.val)), ?_, .inr ?_⟩
  · rw [levelsLeft_of_hi hp, hline.mpr ⟨hbusy, hp⟩]
    exact congrArg (· ++ _) (replicate_sub_of_lt hlt true)
  · by_cases hend : s.ptx.cnt + 1 = thInFlight s
    · rw [runHi_of_end hend, hend, Nat.sub_self]
      exact ⟨rfl, rfl, rfl, rfl⟩
    · rw [runHi_of_count hend]
      exact ⟨levelsLeft_of_hi hp, rfl, rfl, rfl⟩

theorem runLo_advances (hp : s.ptx.phase = .lo) : FrameAdvances s (runLo s) := by
  have hlow := dout_eq_false_of_low hok (by simp [hp])
  obtain ⟨-, hcnt, -⟩ := hok
  have hlt : s.ptx.cnt < tlInFlight s := by
    have hnow := hcnt hbusy
    rwa [hp] at hnow
  refine ⟨List.replicate (tlInFlight s - (s.ptx.cnt + 1)) false ++
    lastLevels s.cfg s.ptx.word (23 - s.ptx.slot.val), ?_, ?_⟩
  · rw [levelsLeft_of_lo hp, hlow]
    exact congrArg (· ++ _) (replicate_sub_of_lt hlt false)
  · rcases lo_cases s with hne | ⟨hend, ⟨next, hn⟩ | ⟨hlast, hr⟩ | ⟨hlast, hr⟩⟩
    · rw [runLo_of_count hne]
      exact .inr ⟨levelsLeft_of_lo hp, rfl, rfl, rfl⟩
    · have hleft : 23 - s.ptx.slot.val = 23 - next.val + 1 := by omega
      rw [runLo_of_nextSlot hend hn, hend, Nat.sub_self, hleft, lastLevels, pulseLevels, List.append_assoc]
      exact .inr ⟨rfl, rfl, rfl, rfl⟩
    · rw [runLo_of_gap hend hlast hr, hend, Nat.sub_self, hlast]
      exact .inr ⟨rfl, rfl, rfl, rfl⟩
    · rw [runLo_of_end hend hlast hr, hend, Nat.sub_self, hlast]
      exact .inl ⟨by simp [lastLevels, hr], rfl⟩

theorem runGap_advances (hp : s.ptx.phase = .gap) : FrameAdvances s (runGap s) := by
  have hlow := dout_eq_false_of_low hok (by simp [hp])
  obtain ⟨-, hcnt, -⟩ := hok
  have hlt : s.ptx.cnt < s.cfg.resetTicks := by
    have hnow := hcnt hbusy
    rwa [hp] at hnow
  refine ⟨List.replicate (s.cfg.resetTicks - (s.ptx.cnt + 1)) false, ?_, ?_⟩
  · rw [levelsLeft_of_gap hp, hlow]
    exact replicate_sub_of_lt hlt false
  · by_cases hend : s.ptx.cnt + 1 = s.cfg.resetTicks
    · rw [runGap_of_end hend, hend, Nat.sub_self]
      exact .inl ⟨rfl, rfl⟩
    · rw [runGap_of_count hend]
      exact .inr ⟨levelsLeft_of_gap hp, rfl, rfl, rfl⟩

theorem execTxRun_advances {start : Bool} (h : exec (.txRun start) s = .next t) : FrameAdvances s t := by
  cases hp : s.ptx.phase with
  | hi =>
    rw [exec_txRun_of_hi hp] at h
    cases h
    exact runHi_advances hok hbusy hp
  | lo =>
    rw [exec_txRun_of_lo hp] at h
    cases h
    exact runLo_advances hok hbusy hp
  | gap =>
    rw [exec_txRun_of_gap hp] at h
    cases h
    exact runGap_advances hok hbusy hp

end

theorem untilDone_of_done (h : s.ptx.done = true) : untilDone s = s := by
  rw [untilDone, if_pos h]

theorem untilDone_of_flight (h : s.ptx.done = false) : untilDone s = { s with stim := .untilDone :: s.stim } := by
  rw [untilDone, if_neg (Bool.eq_false_iff.mp h)]

end

/-! ### The frame of a line `TX w` -/

/-- What a line `TX w` has found: the configuration, the queue behind it, and the events before it. -/
structure FrameOf (c : Cfg) (w : ColorWord) (rest : List Line) (es : List Event) (s : State) : Prop where
  cfg : s.cfg = c
  word : s.ptx.word = w
  stim : s.stim = rest
  trace : s.trace = es

/-- The line `TX w` is sending its frame, with the levels `l` still to come. -/
structure Sending (c : Cfg) (w : ColorWord) (rest : List Line) (es : List Event) (l : List Bool) (s : State) : Prop
    extends FrameOf c w (.untilDone :: rest) es s where
  ok : PtxOk s
  busy : s.ptx.busy = true
  left : levelsLeft c s.ptx = l

/-- The line `TX w` is over. -/
structure Sent (c : Cfg) (w : ColorWord) (rest : List Line) (es : List Event) (s : State) : Prop
    extends FrameOf c w rest (es ++ [.frame w .ok]) s where
  busy : s.ptx.busy = false
  dout : s.ptx.dout = false
  done : s.ptx.done = true
  err : s.ptx.err = false

section
variable {c : Cfg} {w : ColorWord} {rest : List Line} {es : List Event} {l : List Bool} {s : State}

/-- The step of a frame in flight: one level less, or the end. -/
theorem Sending.step (hc : cfgLegal c = true) (h : Sending c w rest es l s) :
    ∃ l', l = s.ptx.dout :: l' ∧
      ∃ t, step s = .next t ∧ ((l' = [] ∧ Sent c w rest es t) ∨ Sending c w rest es l' t) := by
  obtain ⟨⟨rfl, rfl, hstim, rfl⟩, hok, hbusy, rfl⟩ := h
  obtain ⟨p, hp⟩ := exec_completes (.txRun false) { s with stim := rest }
  have hop : exec (ptxctlOp s.ptx.busy false false) { s with stim := rest } = .next p := by rw [hbusy]; exact hp
  have hstep : Machine.step s = .next (untilDone (afterEdge (shiftSync { s with stim := rest } p))) := by
    have hedge : ptxOnlyEdge none false { s with stim := rest } =
        .next (afterEdge (shiftSync { s with stim := rest } p)) := congrArg (mapNext _) hop
    exact (step_of_line hc hstim).trans (congrArg (mapNext untilDone) hedge)
  have hok' : PtxOk p := txOp_keeps_ptxOk (s := { s with stim := rest }) hc hok hop
  obtain ⟨hcfg, -, -, hrest, -⟩ := exec_leaves_inputs hp
  obtain ⟨l', hleft, hnext⟩ := execTxRun_advances (s := { s with stim := rest }) hok hbusy hp
  refine ⟨l', hleft, _, hstep, hnext.imp ?ended ?goesOn⟩
  case ended =>
    rintro ⟨hl, rfl⟩
    rw [untilDone_of_done (by rfl)]
    exact ⟨hl, ⟨rfl, rfl, rfl, rfl⟩, rfl, rfl, rfl, rfl⟩
  case goesOn =>
    rintro ⟨hl, hbusy', hword, htrace⟩
    have hbusy'' : p.ptx.busy = true := hbusy'.trans hbusy
    obtain ⟨hdone, -⟩ := hok'.no_report hbusy''
    rw [untilDone_of_flight (s := afterEdge (shiftSync _ p)) hdone]
    exact ⟨⟨hcfg, hword, congrArg _ hrest, htrace⟩, hok', hbusy'', hcfg ▸ hl⟩

/-- The run of a frame in flight: the levels to come, one a step, and then the end. -/
theorem Sending.run (hc : cfgLegal c = true) (h : Sending c w rest es l s) :
    (∃ t, Host.Core.run core l.length s = .next t ∧ Sent c w rest es t) ∧
    ∀ k, k < l.length → ∃ t, Host.Core.run core k s = .next t ∧ t.ptx.busy = true ∧ t.ptx.done = false ∧
      l[k]? = some t.ptx.dout := by
  induction l generalizing s with
  | nil =>
    obtain ⟨l', hl, -⟩ := h.step hc
    cases hl
  | cons d l ih =>
    obtain ⟨l', hl, t, ht, hnext⟩ := h.step hc
    obtain ⟨rfl, rfl⟩ := List.cons.inj hl
    have hrun := fun k => run_succ_of_step (M := core) (k := k) ht
    have hnow : ∃ u, Host.Core.run core 0 s = .next u ∧ u.ptx.busy = true ∧ u.ptx.done = false ∧
        (s.ptx.dout :: l)[0]? = some u.ptx.dout := ⟨s, rfl, h.busy, (h.ok.no_report h.busy).1, rfl⟩
    rcases hnext with ⟨rfl, hsent⟩ | hsending
    · refine ⟨⟨t, hrun 0, hsent⟩, fun k hk => ?_⟩
      obtain rfl : k = 0 := by simpa using hk
      exact hnow
    · obtain ⟨hlast, hbefore⟩ := ih hsending
      refine ⟨by rw [List.length_cons, hrun]; exact hlast, fun k hk => ?_⟩
      cases k with
      | zero => exact hnow
      | succ k =>
        rw [hrun, List.getElem?_cons_succ]
        exact hbefore k (by simpa using hk)

/-- The first step of a line `TX w` on an idle PTX is TX.START, with the whole frame to come. -/
theorem step_starts_frame (hc : cfgLegal s.cfg = true) (hidle : s.ptx.busy = false) :
    ∃ t, step { s with stim := .tx w :: rest } = .next t ∧ Sending s.cfg w rest s.trace (frameLevels s.cfg w) t := by
  obtain ⟨p, hp⟩ := exec_completes (.txStart false) { s with stim := rest, fsm := { s.fsm with wordR := w } }
  have hop : exec (ptxctlOp s.ptx.busy true false) { s with stim := rest, fsm := { s.fsm with wordR := w } } =
    .next p := by rw [hidle]; exact hp
  have hedge : ptxOnlyEdge (some w) false { s with stim := rest } =
      .next (afterEdge (shiftSync { s with stim := rest } p)) := congrArg (mapNext _) hop
  refine ⟨_, (step_of_line (s := { s with stim := .tx w :: rest }) hc rfl).trans
    (congrArg (mapNext untilDone) hedge), ?_⟩
  rw [exec_txStart] at hp
  cases hp
  rw [untilDone_of_flight (by rfl)]
  refine ⟨⟨rfl, rfl, rfl, rfl⟩, ptxOk_of_flight (highTicks_pos hc _) (by simp) rfl (by simp) rfl rfl, rfl, ?_⟩
  rw [frameLevels_eq_lastLevels, lastLevels, pulseLevels, List.append_assoc]
  exact levelsLeft_of_hi rfl

end

/-- Either operation of an idle PTX takes the report back (R221, R222). -/
theorem exec_ptxSelected_clears_report {s : State} (hidle : s.ptx.busy = false) (fault : Bool) :
    ∃ u, exec (ptxSelected s fault) s = .next u ∧ u.ptx.done = false := by
  cases hstart : s.fsm.startR with
  | false => exact ⟨_, by rw [ptxSelected_eq_txIdle hidle hstart, exec_txIdle], rfl⟩
  | true => exact ⟨_, by rw [ptxSelected_eq_txStart hidle hstart, exec_txStart], rfl⟩

/-- Settles O20: TX.START is the edge E0, every step after it takes one level of the frame, and a frame has D levels;
the reported PTX is idle, and both of its operations clear the report. -/
theorem frameCompletesOnTime : Obligations.FrameCompletesOnTime := by
  intro s w rest hc hidle
  obtain ⟨u, hu, hsending⟩ := step_starts_frame (w := w) (rest := rest) hc hidle
  obtain ⟨⟨t, ht, hsent⟩, -⟩ := hsending.run hc
  rw [frameLevels_length] at ht
  refine ⟨t, (run_succ_of_step (M := core) hu).trans ht, hsent.done, hsent.err, hsent.busy, hsent.dout, hsent.word,
    hsent.trace, hsent.stim, exec_ptxSelected_clears_report hsent.busy⟩

/-- Settles O21: the level of the line `k` edges after E0 is the `k`-th of the frame's levels. -/
theorem lineFollowsTheFrame : Obligations.LineFollowsTheFrame := by
  intro s w rest k hc hidle hk
  obtain ⟨u, hu, hsending⟩ := step_starts_frame (w := w) (rest := rest) hc hidle
  obtain ⟨-, hlevels⟩ := hsending.run hc
  rw [run_succ_of_step (M := core) hu]
  exact hlevels k (by rwa [frameLevels_length])

end Sys2Proof.Machine
end
